-- ==== Sys2Proof/Word.lean ====
section
/-! DEFINITION. The words of AFCD-1: the byte, the 40-bit command word (R80), the 80-bit picture of a
ten-byte wire frame (R44, R87), and the frame buffer's ten bytes (R23). -/

namespace Sys2Proof

/-- A byte: 8 bits, 0 to 255 (R8). -/
abbrev Byte := BitVec 8

/-- A command word, opcode in bits 39:32 and argument in bits 31:0 (R80, R81). -/
abbrev CmdWord := BitVec 40

/-- Ten frame bytes as one number, byte `i` in bits `8i+7:8i` (R44). -/
abbrev WireFrame := BitVec 80

/-- The ten bytes of a frame, `FB[0]` to `FB[9]` (R23). -/
abbrev Frame := Vector Byte 10

/-- The words of one row of the opcode table: a command word (R80), or a wire frame (R87). -/
inductive Encoded
  | command (w : CmdWord)
  | wire (f : WireFrame)
deriving DecidableEq, Repr

end Sys2Proof
end

