-- ==== Sys2Proof/Config.lean ====
section
/-! DEFINITION. What an instance of the block fixes (the parameters of R6), and the free values a reset
draws (R15, R220, R223). -/

namespace Sys2Proof

/-- `P_ENERGY_ORDER` (R6): the byte order of the energy reassembly, R166. -/
inductive EnergyOrder
  | observed
  | alternate
deriving DecidableEq, Repr

/-- The parameters of R6, each fixed for the life of an instance. `P_DEVICE_ADDR` is not among them: it is
what reset loads into `ADDR` (R39). State carries them, and no step changes them (log entry 1). -/
structure Params where
  /-- `P_ENERGY_ORDER` -/
  energyOrder : EnergyOrder
  /-- `P_ENERGY_PARAM1`: byte 3 of a request built by REQE -/
  energyParam1 : Byte
  /-- `P_DCV_K`: decimal scale exponent of the DC-voltage parameters 23 and 26 -/
  dcvK : Fin 3
  /-- `P_LAT`: rising edges from acceptance to completion, at least 1 (`Params.legal`) -/
  latency : Nat
deriving DecidableEq, Repr

/-- The defaults of R6, with `P_LAT` = 1, which R6 leaves OPEN (DESIGN CHOICE, log entry 10). -/
def Params.default : Params :=
  { energyOrder := .observed, energyParam1 := 0x00, dcvK := 1, latency := 1 }

/-- R6: `P_LAT` is a natural number of at least 1. -/
abbrev Params.legal (p : Params) : Prop := 1 ≤ p.latency

/-! The free values a reset draws (R220, R223; log entry 4). Each is applied to the number of resets so
far, so that every reset draws anew. None has a body, so nothing is provable of a drawn value. -/

/-- Byte `i` of `FB` after the `n`-th reset. -/
opaque Config.drawFb : (n i : Nat) → Byte
/-- `SUM` after the `n`-th reset. -/
opaque Config.drawSum : (n : Nat) → BitVec 16
/-- `RAW16` after the `n`-th reset. -/
opaque Config.drawRaw16 : (n : Nat) → BitVec 16
/-- `DSP_PARAM` after the `n`-th reset. -/
opaque Config.drawDspParam : (n : Nat) → Byte
/-- `DSP_K` after the `n`-th reset: 3 included (R34). -/
opaque Config.drawDspK : (n : Nat) → BitVec 2
/-- `DSP_UNIT` after the `n`-th reset. -/
opaque Config.drawDspUnit : (n : Nat) → BitVec 2
/-- `SCALED` after the `n`-th reset: bit 23 may be 1 (R220). -/
opaque Config.drawScaled : (n : Nat) → BitVec 24
/-- `RAW32` after the `n`-th reset. -/
opaque Config.drawRaw32 : (n : Nat) → BitVec 32

end Sys2Proof
end

