-- ==== Sys2Proof/Machine/Frame.lean ====
section
/-! DEFINITION. Computations on a frame's bytes alone: little-endian readings (R10, R62), the checksum
(R12, R90), sealing a request (R87, R89), packing on the wide port (R44), the scale multiplier (R161) and
the energy reassembly (R165, R166). -/

namespace Sys2Proof.Machine

/-- `le16(b0, b1) = b0 + 256*b1` (R10). -/
def le16 (b0 b1 : Byte) : BitVec 16 :=
  BitVec.ofNat 16 (b0.toNat + 2 ^ 8 * b1.toNat)

/-- `le32(b0, b1, b2, b3)`, the first byte least significant (R10). -/
def le32 (b0 b1 b2 b3 : Byte) : BitVec 32 :=
  BitVec.ofNat 32 (b0.toNat + 2 ^ 8 * b1.toNat + 2 ^ 16 * b2.toNat + 2 ^ 24 * b3.toNat)

/-- `s32(w)`, the two's-complement reading (R10). -/
def s32 (w : BitVec 32) : Int :=
  if w.getLsbD 31 then (w.toNat : Int) - 2 ^ 32 else w.toNat

/-- The exact sum of `FB[0..7]`, before any cut (R12, R114). -/
def byteSum (f : Frame) : Nat :=
  f[0].toNat + f[1].toNat + f[2].toNat + f[3].toNat
    + f[4].toNat + f[5].toNat + f[6].toNat + f[7].toNat

/-- `cksum(FB[0..7])`, cut to 16 bits (R12). -/
def cksum (f : Frame) : BitVec 16 :=
  BitVec.ofNat 16 (byteSum f)

/-- `s[7:0]`. -/
def lowByte (s : BitVec 16) : Byte := s.extractLsb' 0 8

/-- `s[15:8]`. -/
def highByte (s : BitVec 16) : Byte := s.extractLsb' 8 8

/-- The checksum field, bytes 8 and 9, agrees with bytes 0 to 7 (R90, R113). -/
def checksumAgrees (f : Frame) : Bool :=
  f[8] == lowByte (cksum f) && f[9] == highByte (cksum f)

/-- The ten bytes of a request frame with given checksum bytes; bytes 4 to 7 are zero (R87, R89). -/
def requestBytes (a c p0 p1 ckLo ckHi : Byte) : Frame :=
  #v[a, c, p0, p1, 0x00, 0x00, 0x00, 0x00, ckLo, ckHi]

/-- The request frame with the checksum of its own first eight bytes (R87, R90, R112). -/
def sealedRequest (a c p0 p1 : Byte) : Frame :=
  let s := cksum (requestBytes a c p0 p1 0x00 0x00)
  requestBytes a c p0 p1 (lowByte s) (highByte s)

/-- Byte `i` in bits `8i+7:8i` (R44). -/
def packFrame (f : Frame) : WireFrame :=
  BitVec.ofNat 80 (f[0].toNat + 2 ^ 8 * f[1].toNat + 2 ^ 16 * f[2].toNat + 2 ^ 24 * f[3].toNat
    + 2 ^ 32 * f[4].toNat + 2 ^ 40 * f[5].toNat + 2 ^ 48 * f[6].toNat + 2 ^ 56 * f[7].toNat
    + 2 ^ 64 * f[8].toNat + 2 ^ 72 * f[9].toNat)

/-- The bytes of a packed frame (R44). -/
def unpackFrame (w : WireFrame) : Frame :=
  #v[w.extractLsb' 0 8, w.extractLsb' 8 8, w.extractLsb' 16 8, w.extractLsb' 24 8,
     w.extractLsb' 32 8, w.extractLsb' 40 8, w.extractLsb' 48 8, w.extractLsb' 56 8,
     w.extractLsb' 64 8, w.extractLsb' 72 8]

/-- `MULT(K) = 10^(2-K)` (R161). -/
def scaleMult (k : Nat) : Nat := 10 ^ (2 - k)

/-- `SCALED` for a raw value: the exact product, in a 24-bit register (R160, R161, R163). -/
def scaledValue (raw : BitVec 16) (k : Nat) : BitVec 24 :=
  BitVec.ofNat 24 (raw.toNat * scaleMult k)

/-- The energy word (R165): `OBSERVED` reads byte 4 twice and byte 6 not at all (R166). -/
def energyWord (order : EnergyOrder) (f : Frame) : BitVec 32 :=
  match order with
  | .observed => le32 f[5] f[4] f[7] f[4]
  | .alternate => le32 f[5] f[4] f[7] f[6]

end Sys2Proof.Machine
end

