-- ==== Sys2Proof/Machine/Operands.lean ====
section
/-! DEFINITION. The fields of a command word (R80, R81) and the three argument formats (R82), read and
written. An ignored bit is read by nothing and written as 0 (R83). -/

namespace Sys2Proof.Machine

/-- `op`, word bits 39:32 (R81). -/
def opOf (w : CmdWord) : Byte := w.extractLsb' 32 8

/-- `arg`, word bits 31:0 (R81). -/
def argOf (w : CmdWord) : BitVec 32 := w.extractLsb' 0 32

/-- `{op, arg}` (R80). -/
def commandWord (op : Byte) (arg : BitVec 32) : CmdWord :=
  BitVec.ofNat 40 (2 ^ 32 * op.toNat + arg.toNat)

/-- Format `B`: the byte `arg[7:0]` (R82). -/
def argByte (arg : BitVec 32) : Byte := arg.extractLsb' 0 8

/-- Format `E`: `a = arg[7:0]`, the address, frame byte 0 (R82). -/
def argAddress (arg : BitVec 32) : Byte := arg.extractLsb' 0 8

/-- Format `E`: `c = arg[15:8]`, the command code, frame byte 1 (R82). -/
def argCommand (arg : BitVec 32) : Byte := arg.extractLsb' 8 8

/-- Format `E`: `p0 = arg[23:16]`, param0, frame byte 2 (R82). -/
def argParam0 (arg : BitVec 32) : Byte := arg.extractLsb' 16 8

/-- Format `E`: `p1 = arg[31:24]`, param1, frame byte 3 (R82). -/
def argParam1 (arg : BitVec 32) : Byte := arg.extractLsb' 24 8

/-- Format `N`, written: every bit is ignored, so 0 (R82, R98). -/
def formN : BitVec 32 := 0

/-- Format `B`, written (R82, R98). -/
def formB (b : Byte) : BitVec 32 := BitVec.ofNat 32 b.toNat

/-- Format `E`, written: `arg = le32(a, c, p0, p1)` (R82, R98). -/
def formE (a c p0 p1 : Byte) : BitVec 32 := le32 a c p0 p1

/-- An opcode of a reserved row: the row's first opcode and the free low bits (R85). -/
def rowOpcode {n : Nat} (first : Nat) (x : BitVec n) : Byte := BitVec.ofNat 8 (first + x.toNat)

end Sys2Proof.Machine
end

