-- ==== Sys2Proof/Machine/Catalog.lean ====
section
/-! DEFINITION. The block's codes: status codes (R26), command codes (R92), and the two closed catalogs,
of DSP parameters (R93, R94, R96) and of energy periods (R95, R96). -/

namespace Sys2Proof.Machine

/-! Status codes, R26. -/

/-- No command has completed since reset. -/
def codeNone : BitVec 3 := 0
/-- The last command succeeded. -/
def codeOk : BitVec 3 := 1
/-- VAL found `LEN ≠ 10` (R192). -/
def codeInvalidLength : BitVec 3 := 2
/-- VAL found a checksum that disagrees (R193). -/
def codeChecksumMismatch : BitVec 3 := 3
/-- A decode found `FRAME_OK = 0` (R194). -/
def codeNoFrame : BitVec 3 := 4
/-- A parameter or period code is not in its catalog (R195). -/
def codeUnknownParam : BitVec 3 := 5
/-- The opcode is reserved (R196). -/
def codeIllegalOp : BitVec 3 := 6
/-- Reserved: never produced (R26; X8 of `93_implementation_defined.md`). -/
def codeReserved : BitVec 3 := 7

/-! Constants, R7 and R92. -/

/-- `FRAME_LEN`, as `LEN` counts it. -/
def frameLen : BitVec 4 := 10
/-- `LEN_MAX`: where the length counter saturates. -/
def lenMax : BitVec 4 := 15
/-- `CMD_DSP`, the DSP-read command code 59. -/
def cmdDsp : Byte := 0x3B
/-- `CMD_ENERGY`, the Cumulated-Energy-read command code 78. -/
def cmdEnergy : Byte := 0x4E

/-- The four units of R94. -/
inductive MeasureUnit
  | volt
  | ampere
  | watt
  | celsius
deriving DecidableEq, Repr

/-- The unit's code in `DSP_UNIT` (R94). -/
def unitCode : MeasureUnit → BitVec 2
  | .volt => 0
  | .ampere => 1
  | .watt => 2
  | .celsius => 3

/-- The nine parameters of the DSP catalog (R93). -/
inductive DspParameter
  | gridVoltage
  | outputPower
  | temperature1
  | temperature2
  | dcVoltage1
  | dcCurrent1
  | dcVoltage2
  | dcCurrent2
  | peakPowerToday
deriving DecidableEq, Repr

/-- The DSP catalog as a closed table from codes to parameters: no other code is known (R93, R96). -/
def dspParameter (code : Byte) : Option DspParameter :=
  match code.toNat with
  | 1 => some .gridVoltage
  | 3 => some .outputPower
  | 21 => some .temperature1
  | 22 => some .temperature2
  | 23 => some .dcVoltage1
  | 25 => some .dcCurrent1
  | 26 => some .dcVoltage2
  | 27 => some .dcCurrent2
  | 35 => some .peakPowerToday
  | _ => none

/-- The decimal scale exponent K (R93, R161): the DC voltages take `P_DCV_K`. -/
def dspExponent (params : Params) : DspParameter → Fin 3
  | .gridVoltage => 1
  | .outputPower => 0
  | .temperature1 => 1
  | .temperature2 => 1
  | .dcVoltage1 => params.dcvK
  | .dcCurrent1 => 2
  | .dcVoltage2 => params.dcvK
  | .dcCurrent2 => 2
  | .peakPowerToday => 0

/-- The parameter's unit (R93). -/
def dspUnitOf : DspParameter → MeasureUnit
  | .gridVoltage => .volt
  | .outputPower => .watt
  | .temperature1 => .celsius
  | .temperature2 => .celsius
  | .dcVoltage1 => .volt
  | .dcCurrent1 => .ampere
  | .dcVoltage2 => .volt
  | .dcCurrent2 => .ampere
  | .peakPowerToday => .watt

/-- The five energy periods (R95). -/
inductive EnergyPeriod
  | today
  | week
  | month
  | year
  | total
deriving DecidableEq, Repr

/-- The energy period catalog: the gap at 2 is intentional (R95, R96). -/
def energyPeriod (code : Byte) : Option EnergyPeriod :=
  match code.toNat with
  | 0 => some .today
  | 1 => some .week
  | 3 => some .month
  | 4 => some .year
  | 5 => some .total
  | _ => none

end Sys2Proof.Machine
end

