-- ==== Sys2Proof/Syntax.lean ====
section
/-! DEFINITION. The instructions: one constructor per row of the opcode table. Argument bits a format
marks ignored are no part of the instruction (R83). -/

namespace Sys2Proof

/-- One row of the opcode table each (R84, R85; the last two are the request frames of R87). -/
inductive Instr
  /-- CLR: empty the frame buffer (R110). -/
  | clr
  /-- PUSH b: append one received byte (R111). -/
  | push (b : Byte)
  /-- VAL: validate the buffered response (R113). -/
  | val
  /-- ENC a, c, p0, p1: build a request frame from four header bytes (R112). -/
  | enc (a c p0 p1 : Byte)
  /-- REQD code: build a DSP-read request (R140). -/
  | reqd (code : Byte)
  /-- REQE period: build a Cumulated-Energy-read request (R141). -/
  | reqe (period : Byte)
  /-- DECD code: decode and scale the DSP value (R160). -/
  | decd (code : Byte)
  /-- DECE: decode the energy value (R165). -/
  | dece
  /-- Reserved opcode 0x00 (R85). -/
  | reserved0000
  /-- Reserved opcode 0x09 (R85). -/
  | reserved0909
  /-- Reserved opcodes 0x0A and 0x0B: `x` is the opcode's low bit (R85). -/
  | reserved0A0B (x : BitVec 1)
  /-- Reserved opcodes 0x0C to 0x0F: `x` is the opcode's low bits (R85). -/
  | reserved0C0F (x : BitVec 2)
  /-- Reserved opcodes 0x10 to 0x1F: `x` is the opcode's low bits (R85). -/
  | reserved101F (x : BitVec 4)
  /-- Reserved opcodes 0x20 to 0x3F: `x` is the opcode's low bits (R85). -/
  | reserved203F (x : BitVec 5)
  /-- Reserved opcodes 0x40 to 0x7F: `x` is the opcode's low bits (R85). -/
  | reserved407F (x : BitVec 6)
  /-- Reserved opcodes 0x80 to 0xFF: `x` is the opcode's low bits (R85). -/
  | reserved80FF (x : BitVec 7)
  /-- The DSP-read request frame on the wire (R87, R140), with the two checksum bytes it carries. -/
  | wireReqDsp (address code ckLo ckHi : Byte)
  /-- The Cumulated-Energy-read request frame on the wire (R87, R141), with param1 and the two checksum
  bytes it carries. -/
  | wireReqEnergy (address period param1 ckLo ckHi : Byte)
deriving DecidableEq, Repr

end Sys2Proof
end

