-- ==== Sys2Proof/WellFormed.lean ====
section
/-! DEFINITION. Well-formed instructions. Every operand of a command is a plain field of its own width,
so every command is well formed (R82, R86). A request frame's row says more than its mask: its code is in
its catalog and its checksum is that of its first eight bytes (R90, R93, R95). -/

namespace Sys2Proof

open Sys2Proof.Machine

/-- The checks of R90, R93 and R95 on the two request frames; no check on a command. param1 of an energy
request is the parameter `P_ENERGY_PARAM1`, so no check on it either. -/
def Instr.wellFormed : Instr → Bool
  | .clr => true
  | .push _ => true
  | .val => true
  | .enc _ _ _ _ => true
  | .reqd _ => true
  | .reqe _ => true
  | .decd _ => true
  | .dece => true
  | .reserved0000 => true
  | .reserved0909 => true
  | .reserved0A0B _ => true
  | .reserved0C0F _ => true
  | .reserved101F _ => true
  | .reserved203F _ => true
  | .reserved407F _ => true
  | .reserved80FF _ => true
  | .wireReqDsp a code lo hi =>
    (dspParameter code).isSome && checksumAgrees (requestBytes a cmdDsp code 0x00 lo hi)
  | .wireReqEnergy a period p1 lo hi =>
    (energyPeriod period).isSome && checksumAgrees (requestBytes a cmdEnergy period p1 lo hi)

end Sys2Proof
end

