-- ==== Sys2Proof/Decode.lean ====
section
/-! DEFINITION. The decoder, total on every 40-bit command word (R86) and rejecting by name an 80-bit
frame that is no request, and the encoder written from the same tables (R84, R85, R87). -/

namespace Sys2Proof

open Sys2Proof.Machine

/-- Why words are no instruction. -/
inductive DecodeError
  /-- The ten bytes match neither request row of the opcode table. -/
  | notARequestFrame
  /-- The opcode table has no row of this many bits. -/
  | noRowOfWidth (nbits : Nat)
deriving DecidableEq, Repr

/-- The reserved opcodes from 0x09 on, by the table's rows (R85). -/
def decodeReserved (op : Byte) : Instr :=
  if op.extractLsb' 7 1 = 0b1 then .reserved80FF (op.extractLsb' 0 7)
  else if op.extractLsb' 6 2 = 0b01 then .reserved407F (op.extractLsb' 0 6)
  else if op.extractLsb' 5 3 = 0b001 then .reserved203F (op.extractLsb' 0 5)
  else if op.extractLsb' 4 4 = 0b0001 then .reserved101F (op.extractLsb' 0 4)
  else if op.extractLsb' 2 6 = 0b000011 then .reserved0C0F (op.extractLsb' 0 2)
  else if op.extractLsb' 1 7 = 0b0000101 then .reserved0A0B (op.extractLsb' 0 1)
  else .reserved0909

/-- The opcode map (R84) with the formats of R82: total (R86). -/
def decodeOp (op : Byte) (arg : BitVec 32) : Instr :=
  match op.toNat with
  | 0x00 => .reserved0000
  | 0x01 => .clr
  | 0x02 => .push (argByte arg)
  | 0x03 => .val
  | 0x04 => .enc (argAddress arg) (argCommand arg) (argParam0 arg) (argParam1 arg)
  | 0x05 => .reqd (argByte arg)
  | 0x06 => .reqe (argByte arg)
  | 0x07 => .decd (argByte arg)
  | 0x08 => .dece
  | _ => decodeReserved op

/-- A 40-bit command word spells exactly one instruction (R86). -/
def decodeCommand (w : CmdWord) : Instr := decodeOp (opOf w) (argOf w)

/-- Ten wire bytes that match a request row: command code and zero bytes as the rows' masks say (R87,
R89, R92). -/
def decodeWire (w : WireFrame) : Except DecodeError Instr :=
  let f := unpackFrame w
  if f[4] = 0x00 ∧ f[5] = 0x00 ∧ f[6] = 0x00 ∧ f[7] = 0x00 then
    if f[1] = cmdDsp ∧ f[3] = 0x00 then .ok (.wireReqDsp f[0] f[2] f[8] f[9])
    else if f[1] = cmdEnergy then .ok (.wireReqEnergy f[0] f[2] f[3] f[8] f[9])
    else .error .notARequestFrame
  else .error .notARequestFrame

/-- Any words of the table's two widths. -/
def decode : Encoded → Except DecodeError Instr
  | .command w => .ok (decodeCommand w)
  | .wire f => decodeWire f

/-- The words a row's `nbits` bits `w` stand for: at most 40 bits are a command word, at most 80 a wire
frame, and higher bits are 0. -/
def tableWord (nbits w : Nat) : Except DecodeError Encoded :=
  if nbits ≤ 40 then .ok (.command (BitVec.ofNat 40 (w % 2 ^ nbits)))
  else if nbits ≤ 80 then .ok (.wire (BitVec.ofNat 80 (w % 2 ^ nbits)))
  else .error (.noRowOfWidth nbits)

/-- The instruction the decoder reads from the bits `w` of a row of the opcode table. -/
def decodeTableWord (nbits w : Nat) : Option Instr :=
  match tableWord nbits w with
  | .error _ => none
  | .ok e =>
    match decode e with
    | .error _ => none
    | .ok i => some i

/-- The words of an instruction, ignored bits 0 (R98). -/
def encode : Instr → Encoded
  | .clr => .command (commandWord 0x01 formN)
  | .push b => .command (commandWord 0x02 (formB b))
  | .val => .command (commandWord 0x03 formN)
  | .enc a c p0 p1 => .command (commandWord 0x04 (formE a c p0 p1))
  | .reqd code => .command (commandWord 0x05 (formB code))
  | .reqe period => .command (commandWord 0x06 (formB period))
  | .decd code => .command (commandWord 0x07 (formB code))
  | .dece => .command (commandWord 0x08 formN)
  | .reserved0000 => .command (commandWord 0x00 formN)
  | .reserved0909 => .command (commandWord 0x09 formN)
  | .reserved0A0B x => .command (commandWord (rowOpcode 0x0A x) formN)
  | .reserved0C0F x => .command (commandWord (rowOpcode 0x0C x) formN)
  | .reserved101F x => .command (commandWord (rowOpcode 0x10 x) formN)
  | .reserved203F x => .command (commandWord (rowOpcode 0x20 x) formN)
  | .reserved407F x => .command (commandWord (rowOpcode 0x40 x) formN)
  | .reserved80FF x => .command (commandWord (rowOpcode 0x80 x) formN)
  | .wireReqDsp a code lo hi => .wire (packFrame (requestBytes a cmdDsp code 0x00 lo hi))
  | .wireReqEnergy a period p1 lo hi =>
    .wire (packFrame (requestBytes a cmdEnergy period p1 lo hi))

end Sys2Proof
end

