-- ==== Sys2Proof/Machine/State.lean ====
section
/-! DEFINITION. The machine's state: the registers of R20, the port-level registers of R30 and R43, the
instance's parameters (R6), and the host's list of events with its index (R21). State.reset is the state of
R220. -/

namespace Sys2Proof.Machine

/-- What the host does next, at the architectural level: it presents words (R21, R45), or it asserts `rst`
with a value on `cfg_addr`, which is a step of its own (R222). -/
inductive HostEvent
  | present (e : Encoded)
  | reset (cfgAddr : Byte)
deriving DecidableEq, Repr

/-- The private copy of an accepted command, held while `BUSY` is 1 (R30, R45). -/
structure InFlight where
  /-- the latched `cmd_op` -/
  op : Byte
  /-- the latched `cmd_arg` -/
  arg : BitVec 32
  /-- rising edges left, the completion edge included (R46; log entry 9) -/
  remaining : Nat
deriving DecidableEq, Repr

/-- The state of one AFCD instance and its host. -/
structure State where
  /-- `FB[0..9]`, the frame buffer (R23) -/
  fb : Frame
  /-- `LEN`, bytes pushed, saturating at 15 (R24) -/
  len : BitVec 4
  /-- `SUM`, the last checksum computed (R25) -/
  sum : BitVec 16
  /-- `CODE`, the status code of the last completed command (R26) -/
  code : BitVec 3
  /-- `FRAME_OK` (R27) -/
  frameOk : Bool
  /-- `DSP_VALID` (R28) -/
  dspValid : Bool
  /-- `NRG_VALID` (R29) -/
  nrgValid : Bool
  /-- `RAW16` (R32) -/
  raw16 : BitVec 16
  /-- `DSP_PARAM` (R33) -/
  dspParam : Byte
  /-- `DSP_K` (R34) -/
  dspK : BitVec 2
  /-- `DSP_UNIT` (R35) -/
  dspUnit : BitVec 2
  /-- `SCALED` (R36) -/
  scaled : BitVec 24
  /-- `RAW32` (R38) -/
  raw32 : BitVec 32
  /-- `ADDR` (R39) -/
  addr : Byte
  /-- `BUSY` and the latched command (R30): `BUSY` is 1 exactly when this is some command -/
  inFlight : Option InFlight
  /-- the register `cmd_ready` (R43) -/
  cmdReady : Bool
  /-- the register `rsp_valid` (R43) -/
  rspValid : Bool
  /-- the parameters of R6, never changed (log entry 1) -/
  params : Params
  /-- the host's list of events (R21): the host's, not the block's -/
  program : List HostEvent
  /-- the host's index into its list (R21) -/
  index : Nat
  /-- how many resets have drawn so far: the model's own, for the free values of R223 (log entry 4) -/
  draws : Nat
deriving DecidableEq, Repr

/-- Why the machine stops. Errors of the block are status codes, not faults (R190). -/
inductive Fault
  /-- `CODE` holds 7, which no rule produces (R26): raised by `step` and `clockEdge`, as X8 of
  `93_implementation_defined.md` says a model should. Safe: it stops. -/
  | reservedCode
deriving DecidableEq, Repr

/-- Why a step has no meaning. -/
inductive Refusal
  /-- An arm of exec without a meaning yet. No arm of this model answers it. Safe: it stops. -/
  | notModelled (mnemonic : String)
deriving DecidableEq, Repr

/-- The state after reset (R220). `LEN`, `CODE`, the flags and `BUSY` are 0, and `cmd_ready` and
`rsp_valid` are 0 after the reset edge. R220 leaves the other registers unspecified: DESIGN CHOICE 0 (log
entry 2), `ADDR` 0x02 as the spec's test vectors take `cfg_addr` (DESIGN CHOICE, log entry 3). -/
def State.reset : State :=
  { fb := #v[0, 0, 0, 0, 0, 0, 0, 0, 0, 0]
    len := 0
    sum := 0
    code := 0
    frameOk := false
    dspValid := false
    nrgValid := false
    raw16 := 0
    dspParam := 0
    dspK := 0
    dspUnit := 0
    scaled := 0
    raw32 := 0
    addr := 0x02
    inFlight := none
    cmdReady := false
    rspValid := false
    params := Params.default
    program := []
    index := 0
    draws := 0 }

end Sys2Proof.Machine
end

