-- ==== Sys2Proof/Machine/Flags.lean ====
section
/-! DEFINITION. Every way a command touches the three flags `FRAME_OK`, `DSP_VALID` and `NRG_VALID`
(R27, R28, R29, R41), and the status word they stand in (R31). -/

namespace Sys2Proof.Machine

/-- CLR, PUSH, a build or a failed length check clears all three flags (R27, R28, R29). -/
def State.clearFlags (s : State) : State :=
  { s with frameOk := false, dspValid := false, nrgValid := false }

/-- A VAL that ran the checksum sets or clears `FRAME_OK` by its result and clears both decode flags
(R113). -/
def State.setVerdict (s : State) (ok : Bool) : State :=
  { s with frameOk := ok, dspValid := false, nrgValid := false }

/-- A failing DECD clears `DSP_VALID` only (R198). -/
def State.clearDspValid (s : State) : State := { s with dspValid := false }

/-- A failing DECE clears `NRG_VALID` only (R198). -/
def State.clearNrgValid (s : State) : State := { s with nrgValid := false }

/-- `BUSY` (R30). -/
def State.busy (s : State) : Bool := s.inFlight.isSome

/-- `STATUS`, the status word (R31): bits 15:12 and 7 read 0. -/
def State.statusWord (s : State) : BitVec 16 :=
  BitVec.ofNat 16 (s.code.toNat + 2 ^ 3 * s.frameOk.toNat + 2 ^ 4 * s.dspValid.toNat
    + 2 ^ 5 * s.nrgValid.toNat + 2 ^ 6 * s.busy.toNat + 2 ^ 8 * s.len.toNat)

end Sys2Proof.Machine
end

