-- ==== Sys2Proof/Machine/Ops.lean ====
section
/-! DEFINITION. The named operations of R11 on the state, each written once: completing a command,
failing (the block's only form of raising an exception: R11, R190, R198; there is no trap entry and no
return, R200), emptying, pushing and building a frame, latching decoded fields, and loading the reset
state (R221). -/

namespace Sys2Proof.Machine

/-- `complete(code)` (R11) at the completion edge (R46): `CODE` is written, `BUSY` ends, and the
handshake registers show a completion (R43). -/
def State.complete (s : State) (code : BitVec 3) : State :=
  { s with code := code, inFlight := none, cmdReady := true, rspValid := true }

/-- `fail(code)`: completing with an error code; nothing else is recorded (R11, R198). -/
def State.fail (s : State) (code : BitVec 3) : State := s.complete code

/-- `LEN + 1`, saturating at `LEN_MAX` (R24). -/
def nextLen (len : BitVec 4) : BitVec 4 := if len = lenMax then lenMax else len + 1

/-- CLR's effect (R110): only the counter and the flags; the bytes of `FB` stay. -/
def State.emptied (s : State) : State :=
  { s with len := 0 }.clearFlags.complete codeOk

/-- PUSH's effect (R111): `FB[LEN]` is written only when `LEN < 10`. -/
def State.pushed (s : State) (b : Byte) : State :=
  { s with fb := s.fb.setIfInBounds s.len.toNat b, len := nextLen s.len }.clearFlags.complete codeOk

/-- The effect of a request build (R112, R140, R141): the sealed frame, its checksum in `SUM`, and
`LEN` at the frame's length. -/
def State.built (s : State) (a c p0 p1 : Byte) : State :=
  let f := sealedRequest a c p0 p1
  { s with fb := f, sum := cksum f, len := frameLen }.clearFlags.complete codeOk

/-- `SUM` takes the checksum of the buffered bytes (R25, R113). -/
def State.summed (s : State) : State := { s with sum := cksum s.fb }

/-- A successful DECD's register writes (R160): raw value, parameter, exponent, unit and product. -/
def State.dspLatched (s : State) (code : Byte) (p : DspParameter) : State :=
  let r := le16 s.fb[6] s.fb[7]
  let k := (dspExponent s.params p).val
  { s with raw16 := r, dspParam := code, dspK := BitVec.ofNat 2 k, dspUnit := unitCode (dspUnitOf p),
           scaled := scaledValue r k, dspValid := true }

/-- A successful DECE's register write (R165). -/
def State.nrgLatched (s : State) : State :=
  { s with raw32 := energyWord s.params.energyOrder s.fb, nrgValid := true }

/-- The host hands ten wire bytes to the block as R99's FRAME does: CLR, then a PUSH of each byte. -/
def State.received (s : State) (f : Frame) : State :=
  f.toList.foldl State.pushed s.emptied

/-- An edge with `rst = 1` (R220, R221): the control registers are 0, `ADDR` takes `cfg_addr`, a command
in flight is abandoned (R222), and every other register is drawn (R223; log entry 4). -/
def State.resetLoad (s : State) (cfgAddr : Byte) : State :=
  { s with
    fb := Vector.ofFn fun i => Config.drawFb s.draws i.val
    len := 0
    sum := Config.drawSum s.draws
    code := codeNone
    frameOk := false
    dspValid := false
    nrgValid := false
    raw16 := Config.drawRaw16 s.draws
    dspParam := Config.drawDspParam s.draws
    dspK := Config.drawDspK s.draws
    dspUnit := Config.drawDspUnit s.draws
    scaled := Config.drawScaled s.draws
    raw32 := Config.drawRaw32 s.draws
    addr := cfgAddr
    inFlight := none
    cmdReady := false
    rspValid := false
    draws := s.draws + 1 }

/-- An edge with `rst = 0` at which nothing is accepted and nothing completes (R43). -/
def State.idled (s : State) : State := { s with cmdReady := true, rspValid := false }

/-- An acceptance edge (R45): the command is latched and `BUSY` starts. -/
def State.accepted (s : State) (op : Byte) (arg : BitVec 32) : State :=
  { s with inFlight := some { op := op, arg := arg, remaining := s.params.latency },
           cmdReady := false, rspValid := false }

/-- An edge between acceptance and completion: one edge fewer is left (R46). -/
def State.waiting (s : State) (p : InFlight) (left : Nat) : State :=
  { s with inFlight := some { p with remaining := left }, cmdReady := false, rspValid := false }

/-- A state whose `CODE` is 7 stops the run (R26; X8 of `93_implementation_defined.md`; log entry 8). -/
def State.unlessReserved (s : State) (o : Host.Outcome State Fault Refusal) :
    Host.Outcome State Fault Refusal :=
  if s.code = codeReserved then .fault .reservedCode else o

/-- The host's index moves past the event that was performed (R21). -/
def advanceIndex (o : Host.Outcome State Fault Refusal) : Host.Outcome State Fault Refusal :=
  match o with
  | .next t => .next { t with index := t.index + 1 }
  | .fault r => .fault r
  | .refused r => .refused r

end Sys2Proof.Machine
end

