-- ==== Sys2Proof/Machine/FieldDecoder.lean ====
section
/-! DEFINITION. The field decoder commands DECD and DECE (`42_field_decoder.md`). -/

namespace Sys2Proof.Machine

/-- DECD code (R160): `NO_FRAME` before `UNKNOWN_PARAM` (R197); a failure keeps the result registers. -/
def execDecd (code : Byte) (s : State) : Host.Outcome State Fault Refusal :=
  if s.frameOk then
    match dspParameter code with
    | none => .next (s.clearDspValid.fail codeUnknownParam)
    | some p => .next ((s.dspLatched code p).complete codeOk)
  else .next (s.clearDspValid.fail codeNoFrame)

/-- DECE (R165). -/
def execDece (s : State) : Host.Outcome State Fault Refusal :=
  if s.frameOk then .next (s.nrgLatched.complete codeOk)
  else .next (s.clearNrgValid.fail codeNoFrame)

end Sys2Proof.Machine
end

