-- ==== Sys2Proof/Machine/FrameCodec.lean ====
section
/-! DEFINITION. The frame codec commands CLR, PUSH, ENC and VAL (`40_frame_codec.md`). -/

namespace Sys2Proof.Machine

/-- CLR (R110). -/
def execClr (s : State) : Host.Outcome State Fault Refusal := .next s.emptied

/-- PUSH b (R111). -/
def execPush (b : Byte) (s : State) : Host.Outcome State Fault Refusal := .next (s.pushed b)

/-- ENC a, c, p0, p1 (R112). It does not read `ADDR` (R39). -/
def execEnc (a c p0 p1 : Byte) (s : State) : Host.Outcome State Fault Refusal :=
  .next (s.built a c p0 p1)

/-- VAL (R113): length before checksum (R117, R197); no checksum logic, and so no write of `SUM`, on a
wrong length. -/
def execVal (s : State) : Host.Outcome State Fault Refusal :=
  if s.len = frameLen then
    if checksumAgrees s.fb then .next ((s.summed.setVerdict true).complete codeOk)
    else .next ((s.summed.setVerdict false).fail codeChecksumMismatch)
  else .next (s.clearFlags.fail codeInvalidLength)

end Sys2Proof.Machine
end

