-- ==== Sys2Proof/Machine/RequestBuilder.lean ====
section
/-! DEFINITION. The request builder commands REQD and REQE (`41_request_builder.md`). -/

namespace Sys2Proof.Machine

/-- REQD code (R140): on success the effect of ENC `ADDR`, 0x3B, code, 0x00. -/
def execReqd (code : Byte) (s : State) : Host.Outcome State Fault Refusal :=
  match dspParameter code with
  | none => .next (s.fail codeUnknownParam)
  | some _ => .next (s.built s.addr cmdDsp code 0x00)

/-- REQE period (R141): on success the effect of ENC `ADDR`, 0x4E, period, `P_ENERGY_PARAM1`. -/
def execReqe (period : Byte) (s : State) : Host.Outcome State Fault Refusal :=
  match energyPeriod period with
  | none => .next (s.fail codeUnknownParam)
  | some _ => .next (s.built s.addr cmdEnergy period s.params.energyParam1)

end Sys2Proof.Machine
end

