-- ==== Sys2Proof/Machine/Reserved.lean ====
section
/-! DEFINITION. The reserved opcodes (R85): each completes with `ILLEGAL_OP` and changes nothing else
(R196). The opcode's low bits select nothing. -/

namespace Sys2Proof.Machine

/-- Opcode 0x00 (R85, R196). -/
def execReserved0000 (s : State) : Host.Outcome State Fault Refusal :=
  .next (s.fail codeIllegalOp)

/-- Opcode 0x09 (R85, R196). -/
def execReserved0909 (s : State) : Host.Outcome State Fault Refusal :=
  .next (s.fail codeIllegalOp)

/-- Opcodes 0x0A to 0x0B (R85, R196). -/
def execReserved0A0B (_x : BitVec 1) (s : State) : Host.Outcome State Fault Refusal :=
  .next (s.fail codeIllegalOp)

/-- Opcodes 0x0C to 0x0F (R85, R196). -/
def execReserved0C0F (_x : BitVec 2) (s : State) : Host.Outcome State Fault Refusal :=
  .next (s.fail codeIllegalOp)

/-- Opcodes 0x10 to 0x1F (R85, R196). -/
def execReserved101F (_x : BitVec 4) (s : State) : Host.Outcome State Fault Refusal :=
  .next (s.fail codeIllegalOp)

/-- Opcodes 0x20 to 0x3F (R85, R196). -/
def execReserved203F (_x : BitVec 5) (s : State) : Host.Outcome State Fault Refusal :=
  .next (s.fail codeIllegalOp)

/-- Opcodes 0x40 to 0x7F (R85, R196). -/
def execReserved407F (_x : BitVec 6) (s : State) : Host.Outcome State Fault Refusal :=
  .next (s.fail codeIllegalOp)

/-- Opcodes 0x80 to 0xFF (R85, R196). -/
def execReserved80FF (_x : BitVec 7) (s : State) : Host.Outcome State Fault Refusal :=
  .next (s.fail codeIllegalOp)

end Sys2Proof.Machine
end

