-- ==== Sys2Proof/Machine/WireFrames.lean ====
section
/-! DEFINITION. The opcode table's two request wire frames (R87). A wire frame is no command: the block
takes 40-bit words only (R80). The model reads such a row as the host handing its ten bytes to the block by
R99's FRAME, CLR and then ten PUSHes (DESIGN CHOICE, log entry 5). A later VAL judges the checksum bytes. -/

namespace Sys2Proof.Machine

/-- The ten bytes of a DSP-read request frame (R87, R92, R140), received by FRAME (R99). -/
def execWireReqDsp (address code ckLo ckHi : Byte) (s : State) : Host.Outcome State Fault Refusal :=
  .next (s.received (requestBytes address cmdDsp code 0x00 ckLo ckHi))

/-- The ten bytes of a Cumulated-Energy-read request frame (R87, R92, R141), received by FRAME (R99). -/
def execWireReqEnergy (address period param1 ckLo ckHi : Byte) (s : State) :
    Host.Outcome State Fault Refusal :=
  .next (s.received (requestBytes address cmdEnergy period param1 ckLo ckHi))

end Sys2Proof.Machine
end

