-- ==== Sys2Proof/Machine/Dispatch.lean ====
section
/-! DEFINITION. exec: one arm per constructor of Instr, each one direct call of its meaning. -/

namespace Sys2Proof.Machine

def exec (i : Instr) (s : State) : Host.Outcome State Fault Refusal :=
  match i with
  | .clr => Sys2Proof.Machine.execClr s
  | .push b => Sys2Proof.Machine.execPush b s
  | .val => Sys2Proof.Machine.execVal s
  | .enc a c p0 p1 => Sys2Proof.Machine.execEnc a c p0 p1 s
  | .reqd code => Sys2Proof.Machine.execReqd code s
  | .reqe period => Sys2Proof.Machine.execReqe period s
  | .decd code => Sys2Proof.Machine.execDecd code s
  | .dece => Sys2Proof.Machine.execDece s
  | .reserved0000 => Sys2Proof.Machine.execReserved0000 s
  | .reserved0909 => Sys2Proof.Machine.execReserved0909 s
  | .reserved0A0B x => Sys2Proof.Machine.execReserved0A0B x s
  | .reserved0C0F x => Sys2Proof.Machine.execReserved0C0F x s
  | .reserved101F x => Sys2Proof.Machine.execReserved101F x s
  | .reserved203F x => Sys2Proof.Machine.execReserved203F x s
  | .reserved407F x => Sys2Proof.Machine.execReserved407F x s
  | .reserved80FF x => Sys2Proof.Machine.execReserved80FF x s
  | .wireReqDsp address code ckLo ckHi => Sys2Proof.Machine.execWireReqDsp address code ckLo ckHi s
  | .wireReqEnergy address period param1 ckLo ckHi => Sys2Proof.Machine.execWireReqEnergy address period param1 ckLo ckHi s

end Sys2Proof.Machine
end

