-- ==== Sys2Proof/Machine/Clock.lean ====
section
/-! DEFINITION. The port level (R5): one rising edge of `clk` with its input pins (R42), the acceptance and
completion of a command (R45, R46), and reset at an edge (R221, R222). -/

namespace Sys2Proof.Machine

/-- The input ports at a rising edge of `clk` (R42). -/
structure PortIn where
  rst : Bool
  cfgAddr : Byte
  cmdValid : Bool
  cmdOp : Byte
  cmdArg : BitVec 32
deriving DecidableEq, Repr

/-- The latched command is performed, as at its completion edge (R46). -/
def completeInFlight (p : InFlight) (s : State) : Host.Outcome State Fault Refusal :=
  exec (decodeOp p.op p.arg) s

/-- One rising edge: reset (R221, R222), an edge of a command in flight (R46), an acceptance (R45), or an
idle edge (R43). -/
def clockEdge (inp : PortIn) (s : State) : Host.Outcome State Fault Refusal :=
  if inp.rst then .next (s.resetLoad inp.cfgAddr)
  else s.unlessReserved (match s.inFlight with
    | some p =>
      match p.remaining with
      | 0 => completeInFlight p s
      | 1 => completeInFlight p s
      | n + 2 => .next (s.waiting p (n + 1))
    | none =>
      if inp.cmdValid && s.cmdReady then .next (s.accepted inp.cmdOp inp.cmdArg)
      else .next s.idled)

/-- Edges in order, stopping at the first fault or refusal. -/
def clockRun : List PortIn → State → Host.Outcome State Fault Refusal
  | [], s => .next s
  | inp :: rest, s =>
    match clockEdge inp s with
    | .next t => clockRun rest t
    | .fault r => .fault r
    | .refused r => .refused r

end Sys2Proof.Machine
end

