-- ==== Sys2Proof/Machine/Transaction.lean ====
section
/-! DEFINITION. The architectural level (R5): one step performs the host's next event (R21, R222) as one
atomic transaction (R67). -/

namespace Sys2Proof.Machine

/-- What the host does next: the event at its index (R21). -/
def State.nextEvent (s : State) : Option HostEvent := s.program[s.index]?

/-- Perform presented words: a command word is decoded and executed (R86); ten wire bytes that match no
request row are received by R99's FRAME all the same (log entry 5). -/
def perform (e : Encoded) (s : State) : Host.Outcome State Fault Refusal :=
  match e with
  | .command w => exec (decodeCommand w) s
  | .wire w =>
    match decodeWire w with
    | .ok i => exec i s
    | .error _ => .next (s.received (unpackFrame w))

/-- One architectural step. A command already accepted completes first (log entry 18); otherwise the
host's next event is performed, and a host with nothing to do leaves the block idle (log entry 6). -/
def transact (s : State) : Host.Outcome State Fault Refusal :=
  match s.inFlight with
  | some p => s.unlessReserved (advanceIndex (completeInFlight p s))
  | none =>
    match s.nextEvent with
    | some (.reset a) => advanceIndex (.next (s.resetLoad a))
    | some (.present e) => s.unlessReserved (advanceIndex (perform e s))
    | none => s.unlessReserved (.next s.idled)

/-- The host's list becomes one event, its next, with no command in flight (log entry 7). -/
def State.withHostWords (s : State) (e : Encoded) : State :=
  { s with program := [.present e], index := 0, inFlight := none }

end Sys2Proof.Machine
end

