-- ==== Sys2Proof/Machine/Step.lean ====
section
/-! DEFINITION. step: one architectural step (R5), and withFetchWord, which puts a row's words where step
takes its next instruction from: the host's list at the host's index (R21). -/

namespace Sys2Proof.Machine

/-- One step of the machine (R5, R21, R67, R222). -/
def step (s : State) : Host.Outcome State Fault Refusal := transact s

/-- `s` with the row's words as the host's next event (log entry 7). Words of a width the opcode table does
not have leave `s` as it is. -/
def State.withFetchWord (s : State) (nbits w : Nat) : State :=
  match tableWord nbits w with
  | .ok e => s.withHostWords e
  | .error _ => s

end Sys2Proof.Machine
end

