-- ==== Sys2Proof/Machine/Assembler.lean ====
section
/-! DEFINITION. The textual forms outside the block: the pseudo-instructions (R99) and the assembler syntax
(R98). The block never sees either. Text is a list of characters (log entry 15 names what R98 leaves open). -/

namespace Sys2Proof.Machine

/-- The pseudo-instructions of R99. RXDSP and RXNRG take the ten bytes of a response. -/
inductive Pseudo
  | frame (bytes : List Byte)
  | check (bytes : List Byte)
  | rxdsp (code : Byte) (bytes : Frame)
  | rxnrg (bytes : Frame)
deriving DecidableEq, Repr

/-- FRAME's expansion: CLR, then one PUSH per byte (R99). -/
def expandFrame (bytes : List Byte) : List Instr := .clr :: bytes.map .push

/-- CHECK's expansion: FRAME, then VAL (R99). -/
def expandCheck (bytes : List Byte) : List Instr := expandFrame bytes ++ [.val]

/-- The expansions of R99. -/
def expandPseudo : Pseudo → List Instr
  | .frame bytes => expandFrame bytes
  | .check bytes => expandCheck bytes
  | .rxdsp code bytes => expandCheck bytes.toList ++ [.decd code]
  | .rxnrg bytes => expandCheck bytes.toList ++ [.dece]

/-- The command words of an instruction list; a wire frame is no command word. -/
def commandWords (is : List Instr) : List CmdWord :=
  is.filterMap fun i =>
    match encode i with
    | .command w => some w
    | .wire _ => none

/-- Why a line is not assembled. -/
inductive AsmError
  /-- The first word of the line is no mnemonic of R98 or R99. -/
  | unknownMnemonic
  /-- The mnemonic does not take that many operands. -/
  | operandCount
  /-- An operand is neither a number nor a symbol of R98. -/
  | badOperand
  /-- An operand does not fit its field. -/
  | outOfRange
deriving DecidableEq, Repr

/-- The symbolic operands of R98. -/
def asmSymbols : List (List Char × Nat) :=
  [("GRID_V".toList, 1), ("OUT_P".toList, 3), ("TEMP1".toList, 21), ("TEMP2".toList, 22),
   ("DC_V1".toList, 23), ("DC_I1".toList, 25), ("DC_V2".toList, 26), ("DC_I2".toList, 27),
   ("PEAK_P".toList, 35), ("TODAY".toList, 0), ("WEEK".toList, 1), ("MONTH".toList, 3),
   ("YEAR".toList, 4), ("TOTAL".toList, 5), ("CMD_DSP".toList, 59), ("CMD_ENERGY".toList, 78)]

/-- A blank of the text. -/
def isBlank (c : Char) : Bool := c == ' ' || c == '\t' || c == '\r'

/-- The text without blanks at its ends. -/
def trimBlanks (cs : List Char) : List Char :=
  ((cs.dropWhile isBlank).reverse.dropWhile isBlank).reverse

/-- The pieces of a text between separators. -/
def splitChars (sep : Char) (cs : List Char) : List (List Char) :=
  cs.foldr (fun c acc =>
    if c == sep then [] :: acc
    else match acc with
      | [] => [[c]]
      | p :: ps => (c :: p) :: ps) [[]]

/-- The value of a digit in base 10 or 16. -/
def digitValue (base : Nat) (c : Char) : Option Nat :=
  let v :=
    if '0'.toNat ≤ c.toNat && c.toNat ≤ '9'.toNat then some (c.toNat - '0'.toNat)
    else if 'a'.toNat ≤ c.toNat && c.toNat ≤ 'f'.toNat then some (c.toNat - 'a'.toNat + 10)
    else if 'A'.toNat ≤ c.toNat && c.toNat ≤ 'F'.toNat then some (c.toNat - 'A'.toNat + 10)
    else none
  v.filter (· < base)

/-- A number from its digits, the most significant first. -/
def digitsValue (base : Nat) : List Char → Option Nat
  | [] => none
  | cs => cs.foldl (fun acc c =>
      match acc, digitValue base c with
      | some n, some d => some (n * base + d)
      | _, _ => none) (some 0)

/-- A number in decimal or `0x` hexadecimal (R98). -/
def numberValue (cs : List Char) : Option Nat :=
  match cs with
  | '0' :: 'x' :: ds => digitsValue 16 ds
  | ds => digitsValue 10 ds

/-- An operand: a symbol or a number (R98). -/
def operandValue (cs : List Char) : Except AsmError Nat :=
  match asmSymbols.lookup cs with
  | some n => .ok n
  | none =>
    match numberValue cs with
    | some n => .ok n
    | none => .error .badOperand

/-- Every operand of a list, or the first one's error. -/
def operandValues : List (List Char) → Except AsmError (List Nat)
  | [] => .ok []
  | c :: cs =>
    match operandValue c, operandValues cs with
    | .ok n, .ok ns => .ok (n :: ns)
    | .error e, _ => .error e
    | .ok _, .error e => .error e

/-- Operands as bytes, refused when one does not fit 8 bits (R82). -/
def asBytes : List Nat → Except AsmError (List Byte)
  | [] => .ok []
  | n :: ns =>
    if n < 256 then
      match asBytes ns with
      | .ok bs => .ok (BitVec.ofNat 8 n :: bs)
      | .error e => .error e
    else .error .outOfRange

/-- Ten bytes as a frame. -/
def asFrame (bytes : List Byte) : Option Frame :=
  match bytes with
  | [b0, b1, b2, b3, b4, b5, b6, b7, b8, b9] => some #v[b0, b1, b2, b3, b4, b5, b6, b7, b8, b9]
  | _ => none

/-- The instructions of a mnemonic with byte operands (R98, R99). -/
def instrsOf (mnemonic : List Char) (ops : List Byte) : Except AsmError (List Instr) :=
  if mnemonic = "FRAME".toList then .ok (expandPseudo (.frame ops))
  else if mnemonic = "CHECK".toList then .ok (expandPseudo (.check ops))
  else if mnemonic = "RXDSP".toList then
    match ops with
    | code :: bytes => match asFrame bytes with
      | some f => .ok (expandPseudo (.rxdsp code f))
      | none => .error .operandCount
    | [] => .error .operandCount
  else if mnemonic = "RXNRG".toList then
    match asFrame ops with
    | some f => .ok (expandPseudo (.rxnrg f))
    | none => .error .operandCount
  else if mnemonic = "CLR".toList then if ops = [] then .ok [.clr] else .error .operandCount
  else if mnemonic = "VAL".toList then if ops = [] then .ok [.val] else .error .operandCount
  else if mnemonic = "DECE".toList then if ops = [] then .ok [.dece] else .error .operandCount
  else if mnemonic = "ENC".toList then
    match ops with
    | [a, c, p0, p1] => .ok [.enc a c p0 p1]
    | _ => .error .operandCount
  else if mnemonic = "PUSH".toList then
    match ops with
    | [b] => .ok [.push b]
    | _ => .error .operandCount
  else if mnemonic = "REQD".toList then
    match ops with
    | [b] => .ok [.reqd b]
    | _ => .error .operandCount
  else if mnemonic = "REQE".toList then
    match ops with
    | [b] => .ok [.reqe b]
    | _ => .error .operandCount
  else if mnemonic = "DECD".toList then
    match ops with
    | [b] => .ok [.decd b]
    | _ => .error .operandCount
  else .error .unknownMnemonic

/-- `.cmd op, arg`: the raw word (R98). -/
def rawWord (ops : List Nat) : Except AsmError (List CmdWord) :=
  match ops with
  | [op, arg] =>
    if op < 256 ∧ arg < 2 ^ 32 then .ok [commandWord (BitVec.ofNat 8 op) (BitVec.ofNat 32 arg)]
    else .error .outOfRange
  | _ => .error .operandCount

/-- The words of a mnemonic with its operands' values. -/
def wordsOf (mnemonic : List Char) (ops : List Nat) : Except AsmError (List CmdWord) :=
  if mnemonic = ".cmd".toList then rawWord ops
  else
    match asBytes ops with
    | .error e => .error e
    | .ok bs =>
      match instrsOf mnemonic bs with
      | .error e => .error e
      | .ok is => .ok (commandWords is)

/-- The words of one line: a comment starts at `;`, the mnemonic comes first, operands are separated by
commas (R98). An empty line has no words. -/
def assembleLine (line : List Char) : Except AsmError (List CmdWord) :=
  let text := trimBlanks (line.takeWhile (· != ';'))
  if text = [] then .ok []
  else
    let mnemonic := text.takeWhile (fun c => !isBlank c)
    let rest := trimBlanks (text.dropWhile (fun c => !isBlank c))
    let operands := if rest = [] then [] else (splitChars ',' rest).map trimBlanks
    match operandValues operands with
    | .error e => .error e
    | .ok ns => wordsOf mnemonic ns

/-- The words of every line in order, or the first error. -/
def assembleLines : List (List Char) → Except AsmError (List CmdWord)
  | [] => .ok []
  | l :: ls =>
    match assembleLine l, assembleLines ls with
    | .ok ws, .ok rest => .ok (ws ++ rest)
    | .error e, _ => .error e
    | .ok _, .error e => .error e

/-- A program text: one command per line (R98). -/
def assemble (text : List Char) : Except AsmError (List CmdWord) :=
  assembleLines (splitChars '\n' text)

/-- The host's list for a program text (R21, R98). -/
def hostProgram (ws : List CmdWord) : List Encoded := ws.map .command

end Sys2Proof.Machine
end

