-- ==== Sys2Proof/Machine/Ports.lean ====
section
/-! DEFINITION. The output ports as views of the state (R43, R44), each a function of registers only, and
the value a host may rely on: a result port under its flag (R225). `cmd_ready` and `rsp_valid` are the fields
`cmdReady` and `rspValid`, and `status_o` is `State.statusWord` (R31). -/

namespace Sys2Proof.Machine

/-- `rsp_status`: the `CODE` of the completion, meaningful only while `rsp_valid = 1` (R43; log entry 17). -/
def State.rspStatus (s : State) : BitVec 3 := s.code

/-- `fb_o` (R44). -/
def State.fbPort (s : State) : WireFrame := packFrame s.fb

/-- `payload_o`, `fb_o[63:0]` (R43, R120). -/
def State.payloadPort (s : State) : BitVec 64 := s.fbPort.extractLsb' 0 64

/-- `sum_o`. -/
def State.sumPort (s : State) : BitVec 16 := s.sum

/-- `dsp_raw_o`. -/
def State.dspRawPort (s : State) : BitVec 16 := s.raw16

/-- `dsp_scaled_o`. -/
def State.dspScaledPort (s : State) : BitVec 24 := s.scaled

/-- `dsp_info_o`, the word `DSP_INFO` (R37): bits 15:12 read 0. -/
def State.dspInfo (s : State) : BitVec 16 :=
  BitVec.ofNat 16 (s.dspParam.toNat + 2 ^ 8 * s.dspK.toNat + 2 ^ 10 * s.dspUnit.toNat)

/-- `nrg_o`. -/
def State.nrgPort (s : State) : BitVec 32 := s.raw32

/-- `addr_o`. -/
def State.addrPort (s : State) : Byte := s.addr

/-! What the host may treat as meaningful (R225). -/

/-- `payload_o` while `FRAME_OK = 1`. -/
def State.payload? (s : State) : Option (BitVec 64) :=
  if s.frameOk then some s.payloadPort else none

/-- `dsp_raw_o`, `dsp_scaled_o` and `dsp_info_o` while `DSP_VALID = 1`. -/
def State.dspResult? (s : State) : Option (BitVec 16 × BitVec 24 × BitVec 16) :=
  if s.dspValid then some (s.dspRawPort, s.dspScaledPort, s.dspInfo) else none

/-- `nrg_o` while `NRG_VALID = 1`. -/
def State.energy? (s : State) : Option (BitVec 32) :=
  if s.nrgValid then some s.nrgPort else none

/-- `rsp_status` in the one cycle in which `rsp_valid` is 1. -/
def State.response? (s : State) : Option (BitVec 3) :=
  if s.rspValid then some s.rspStatus else none

end Sys2Proof.Machine
end

