-- ==== Sys2Proof/Machine/Physical.lean ====
section
/-! DEFINITION. What the decoded registers mean outside the block: the exact physical value (R162), the
energy in watt-hours (R167) and a caller's kilowatt-hours (R168), and the software's binary64 value that R169
relates to the physical value (PRESUMED: G1 of `93_implementation_defined.md`, log entry 16). No command
depends on any of these. -/

namespace Sys2Proof.Machine

/-- `PHYS = RAW16 × 10^-DSP_K`, of unit `DSP_UNIT` (R162). -/
def State.phys (s : State) : Rat := (s.raw16.toNat : Rat) / 10 ^ s.dspK.toNat

/-- The energy in watt-hours, `s32(RAW32)` (R38, R167). -/
def State.energyWh (s : State) : Int := s32 s.raw32

/-- A caller's kilowatt-hours (R168). -/
def State.energyKwh (s : State) : Rat := (s.energyWh : Rat) / 1000

/-- A positive binary64 number `mant × 2^expo` with a 53-bit significand. -/
structure Binary64 where
  mant : Nat
  expo : Int
deriving DecidableEq, Repr

/-- `num / den` to the nearest natural number, ties to even. -/
def roundHalfEven (num den : Nat) : Nat :=
  let q := num / den
  let r := num % den
  if 2 * r < den then q
  else if den < 2 * r then q + 1
  else q + q % 2

/-- `num / den` scaled by `2^-e`, rounded: the significand at exponent `e`. -/
def significandAt (num den : Nat) (e : Int) : Nat :=
  if 0 ≤ e then roundHalfEven num (den * 2 ^ e.toNat)
  else roundHalfEven (num * 2 ^ (-e).toNat) den

/-- `RNE64(num / den)` for a quotient in binary64's normal range, positive operands (R169). The exponent is
estimated from the operands' lengths and is one too small exactly when the significand overflows. -/
def rne64 (num den : Nat) : Binary64 :=
  let e : Int := (num.log2 : Int) - den.log2 - 53
  let m := significandAt num den e
  if m < 2 ^ 53 then { mant := m, expo := e }
  else
    let m' := significandAt num den (e + 1)
    if m' < 2 ^ 53 then { mant := m', expo := e + 1 } else { mant := m' / 2, expo := e + 2 }

/-- The binary64 encoding of a positive normal number. -/
def Binary64.bits (b : Binary64) : BitVec 64 :=
  BitVec.ofNat 64 ((b.expo + 1075).toNat * 2 ^ 52 + (b.mant - 2 ^ 52))

/-- `RAW16 × c` rounded, for a constant `c = mant × 2^expo` (R169). -/
def rne64Scaled (raw : Nat) (c : Binary64) : Binary64 :=
  if 0 ≤ c.expo then rne64 (raw * c.mant * 2 ^ c.expo.toNat) 1
  else rne64 (raw * c.mant) (2 ^ (-c.expo).toNat)

/-- The bits of `v_sw = RNE64(RAW16 × RNE64(10^-K))` (R169). -/
def softwareValue (raw k : Nat) : BitVec 64 :=
  if raw = 0 then 0 else (rne64Scaled raw (rne64 1 (10 ^ k))).bits

end Sys2Proof.Machine
end

