-- ==== Sys2Proof/Machine/Run.lean ====
section
/-! DEFINITION. A run of instructions from a state, and what the host observes of it (R17): the final state
and the sequence of `rsp_status` codes. -/

namespace Sys2Proof.Machine

/-- The instructions in order, stopping at the first fault or refusal. -/
def runInstrs : List Instr → State → Host.Outcome State Fault Refusal
  | [], s => .next s
  | i :: is, s =>
    match exec i s with
    | .next t => runInstrs is t
    | .fault r => .fault r
    | .refused r => .refused r

/-- The status code of each completion, in order (R17). -/
def statusTrace : List Instr → State → List (BitVec 3)
  | [], _ => []
  | i :: is, s =>
    match exec i s with
    | .next t => t.code :: statusTrace is t
    | .fault _ => []
    | .refused _ => []

/-- R199's mark: some completion of the run had a code other than `OK`. -/
def errorSeen (codes : List (BitVec 3)) : Bool := codes.any (· != codeOk)

end Sys2Proof.Machine
end

