-- ==== Sys2Proof/Safety.lean ====
section
/-! DEFINITION. The properties of states and runs that claims speak of: the invariants of R40, the port-level
invariant behind R30 and R46, a reset state (R220), and the host's duties at the port (R16). -/

namespace Sys2Proof

open Sys2Proof.Machine

/-- I1 of R40. -/
abbrev FrameOkMeansSealed (s : State) : Prop :=
  s.frameOk = true →
    s.len = 10 ∧ s.fb[8] = lowByte (cksum s.fb) ∧ s.fb[9] = highByte (cksum s.fb)

/-- I2 of R40. -/
abbrev DspValidMeansDecoded (s : State) : Prop :=
  s.dspValid = true →
    s.frameOk = true ∧ s.raw16 = le16 s.fb[6] s.fb[7]
      ∧ s.scaled.toNat = s.raw16.toNat * 10 ^ (2 - s.dspK.toNat)

/-- R33 and R34 once written: `DSP_PARAM` is a catalog code and `DSP_K` is its exponent, never 3. -/
abbrev DspValidMeansCatalogued (s : State) : Prop :=
  s.dspValid = true →
    ∃ p, dspParameter s.dspParam = some p ∧ s.dspK.toNat = (dspExponent s.params p).val
      ∧ s.dspUnit = unitCode (dspUnitOf p)

/-- I3 of R40. -/
abbrev NrgValidMeansDecoded (s : State) : Prop :=
  s.nrgValid = true → s.frameOk = true ∧ s.raw32 = energyWord s.params.energyOrder s.fb

/-- I4 of R40. -/
abbrev FrameOkMeansSummed (s : State) : Prop := s.frameOk = true → s.sum = cksum s.fb

/-- I5 of R40. -/
abbrev CodeAndLenInRange (s : State) : Prop := s.len.toNat ≤ 15 ∧ s.code ≠ codeReserved

/-- The invariants of R40, with R33 and R34 beside I2. -/
structure ArchInv (s : State) : Prop where
  sealed : FrameOkMeansSealed s
  dspDecoded : DspValidMeansDecoded s
  dspCatalogued : DspValidMeansCatalogued s
  nrgDecoded : NrgValidMeansDecoded s
  summed : FrameOkMeansSummed s
  inRange : CodeAndLenInRange s

/-- The port level's invariant: `P_LAT` is at least 1 (R6), and while `BUSY` is 1 neither handshake register
is (R43), and between one and `P_LAT` edges are left (R46). -/
structure PortInv (s : State) : Prop where
  latency : s.params.legal
  busyQuiet : s.inFlight ≠ none → s.cmdReady = false ∧ s.rspValid = false
  edgesLeft : ∀ p, s.inFlight = some p → 1 ≤ p.remaining ∧ p.remaining ≤ s.params.latency

/-- A reset state (R220) with a given value sampled from `cfg_addr`: every register R220 gives a value has
it; the drawn registers are not constrained. -/
structure IsResetState (cfgAddr : Byte) (s : State) : Prop where
  len : s.len = 0
  code : s.code = 0
  frameOk : s.frameOk = false
  dspValid : s.dspValid = false
  nrgValid : s.nrgValid = false
  busy : s.inFlight = none
  cmdReady : s.cmdReady = false
  rspValid : s.rspValid = false
  addr : s.addr = cfgAddr

/-- The groups of instructions that the flags' rules speak of (R27, R28, R29, R41). -/
inductive InstrKind
  /-- CLR, PUSH, ENC: they change the buffered frame and never fail -/
  | frameEdit
  /-- VAL -/
  | validation
  /-- REQD, REQE -/
  | request
  /-- DECD -/
  | dspDecode
  /-- DECE -/
  | energyDecode
  /-- the reserved opcodes (R85) -/
  | reserved
  /-- the two wire frames, no commands (R87) -/
  | wireFrame
deriving DecidableEq, Repr

/-- The group of each instruction. -/
def Instr.kind : Instr → InstrKind
  | .clr => .frameEdit
  | .push _ => .frameEdit
  | .val => .validation
  | .enc _ _ _ _ => .frameEdit
  | .reqd _ => .request
  | .reqe _ => .request
  | .decd _ => .dspDecode
  | .dece => .energyDecode
  | .reserved0000 => .reserved
  | .reserved0909 => .reserved
  | .reserved0A0B _ => .reserved
  | .reserved0C0F _ => .reserved
  | .reserved101F _ => .reserved
  | .reserved203F _ => .reserved
  | .reserved407F _ => .reserved
  | .reserved80FF _ => .reserved
  | .wireReqDsp _ _ _ _ => .wireFrame
  | .wireReqEnergy _ _ _ _ _ => .wireFrame

/-- Instruction `i`, from `s` to `t`, writes `SUM` (R25): an ENC, a successful REQD or REQE, or a VAL that ran
the checksum. -/
def WritesSum (i : Instr) (s t : State) : Prop :=
  (∃ a c p0 p1, i = .enc a c p0 p1) ∨ (i.kind = .request ∧ t.code = codeOk) ∨
    (i = .val ∧ s.len = frameLen)

/-- Some instruction of the run wrote `SUM`, so `sum_o` is meaningful after it (R225). -/
def SumWritten : List Instr → State → Prop
  | [], _ => False
  | i :: is, s => ∃ t, exec i s = .next t ∧ (WritesSum i s t ∨ SumWritten is t)

/-- The host's duty while a command waits for acceptance (R16, R45): the pins of the next edge hold the same
command. -/
def HostHolds (s : State) (now next : PortIn) : Prop :=
  now.cmdValid = true → s.cmdReady = false →
    next.cmdOp = now.cmdOp ∧ next.cmdArg = now.cmdArg

/-- The host's duty in reset (R16, R224): `cfg_addr` is held while `rst = 1`. -/
def HostHoldsAddress (now next : PortIn) : Prop :=
  now.rst = true → next.rst = true → next.cfgAddr = now.cfgAddr

end Sys2Proof
end

