-- ==== Sys2Proof/Certificates/Slice0/Obligations.lean ====
section
/-! DEFINITION. The statements for the provers. Each docstring names the rule it formalises; where a clause
rests on the model's choice it names the log entry. -/

open Sys2Proof Sys2Proof.Machine

/-! ## Encoding -/

/-- R81, R82, R84, R85, R87: every instruction, at every value of its operands, decodes from its own words. -/
def Obligations.DecodeUndoesEncode : Prop :=
  ∀ i : Instr, decode (encode i) = .ok i

/-- R87, R92: ten wire bytes that decode are exactly the words of the instruction they decode to. -/
def Obligations.WireDecodeIsExact : Prop :=
  ∀ (w : WireFrame) (i : Instr), decodeWire w = .ok i → encode i = .wire w

/-- R86: a command word keeps its opcode through decoding and encoding, so no opcode falls through to a
neighbour, and what is lost is only what decoding does not read. -/
def Obligations.DecodeKeepsTheOpcode : Prop :=
  ∀ w : CmdWord, ∃ w', encode (decodeCommand w) = .command w' ∧ opOf w' = opOf w ∧
    decodeCommand w' = decodeCommand w

/-- R83: words that differ only in ignored bits are the same command. Formats N ignore the whole argument
(CLR, VAL, DECE, and the reserved opcodes, which read none), format B all but `arg[7:0]`, format E none. Words
written from instructions hold 0 in them. That the argument of a reserved opcode is dropped and written as 0 in the
same way is the model's reading (log entry 11). -/
def Obligations.IgnoredBitsChangeNothing : Prop :=
  (∀ w w' : CmdWord, opOf w = opOf w' →
    (opOf w = 0x02 ∨ opOf w = 0x05 ∨ opOf w = 0x06 ∨ opOf w = 0x07 →
      argByte (argOf w) = argByte (argOf w')) →
    (opOf w = 0x04 → argOf w = argOf w') →
    decodeCommand w = decodeCommand w') ∧
  (∀ (i : Instr) (w : CmdWord), encode i = .command w →
    (opOf w = 0x02 ∨ opOf w = 0x05 ∨ opOf w = 0x06 ∨ opOf w = 0x07 →
      (argOf w).extractLsb' 8 24 = 0) ∧
    (opOf w ≠ 0x02 ∧ opOf w ≠ 0x04 ∧ opOf w ≠ 0x05 ∧ opOf w ≠ 0x06 ∧ opOf w ≠ 0x07 →
      argOf w = 0))

/-- Sanity: words written out from R84, R85, R98 and the opcode table's wire rows. -/
def Obligations.SpecWordsDecode : Prop :=
  decodeCommand 0x0100000000 = .clr ∧ decodeCommand 0x0200000064 = .push 0x64 ∧
  decodeCommand 0x0300000000 = .val ∧ decodeCommand 0x0480402010 = .enc 0x10 0x20 0x40 0x80 ∧
  decodeCommand 0x0500000023 = .reqd 35 ∧ decodeCommand 0x0600000005 = .reqe 5 ∧
  decodeCommand 0x0700000019 = .decd 25 ∧ decodeCommand 0x0800000000 = .dece ∧
  decodeCommand 0x0000000000 = .reserved0000 ∧ decodeCommand 0x0900000000 = .reserved0909 ∧
  decodeCommand 0x0B00000000 = .reserved0A0B 1 ∧ decodeCommand 0x0E00000000 = .reserved0C0F 2 ∧
  decodeCommand 0x1F00000000 = .reserved101F 15 ∧ decodeCommand 0x2000000000 = .reserved203F 0 ∧
  decodeCommand 0x7F00000000 = .reserved407F 63 ∧ decodeCommand 0xFFFFFFFFFF = .reserved80FF 127 ∧
  decode (.wire 0x003E0000000000013B02) = .ok (.wireReqDsp 0x02 0x01 0x3E 0x00) ∧
  decode (.wire 0x00550000000000054E02) = .ok (.wireReqEnergy 0x02 0x05 0x00 0x55 0x00)

/-- R93, R94, R95, R96: the DSP catalog with K and unit code, row by row, and the period catalog with its gap
at 2; no other code is known. -/
def Obligations.CatalogsAreTheTables : Prop :=
  (∀ (params : Params) (code : Byte),
    (dspParameter code).map (fun p => ((dspExponent params p).val, unitCode (dspUnitOf p))) =
      if code = 1 then some (1, 0)
      else if code = 3 ∨ code = 35 then some (0, 2)
      else if code = 21 ∨ code = 22 then some (1, 3)
      else if code = 23 ∨ code = 26 then some (params.dcvK.val, 0)
      else if code = 25 ∨ code = 27 then some (2, 1)
      else none) ∧
  (∀ code : Byte, (energyPeriod code).isSome = true ↔
    code = 0 ∨ code = 1 ∨ code = 3 ∨ code = 4 ∨ code = 5)

/-! ## The step -/

/-- R21, R67, R86: when the host's next words decode to `i` and no command is in flight, the step is exec of
`i` at the same state, and then the host's index moves on by one (log entries 6 and 7). -/
def Obligations.StepRunsTheDecodedInstruction : Prop :=
  ∀ (s : State) (e : Encoded) (i : Instr),
    s.code ≠ 7 → s.inFlight = none → s.program[s.index]? = some (.present e) → decode e = .ok i →
    step s = match exec i s with
      | .next t => .next { t with index := t.index + 1 }
      | .fault r => .fault r
      | .refused r => .refused r

/-- The model's own (log entry 7): with withFetchWord the next step runs the row's instruction, for the
40-bit rows and for the 80-bit rows. -/
def Obligations.FetchWordIsRunNext : Prop :=
  ∀ (s : State) (w : Nat) (i : Instr), s.code ≠ 7 →
    (w < 2 ^ 40 → decodeTableWord 40 w = some i →
      step (s.withFetchWord 40 w) = advanceIndex (exec i (s.withFetchWord 40 w))) ∧
    (w < 2 ^ 80 → decodeTableWord 80 w = some i →
      step (s.withFetchWord 80 w) = advanceIndex (exec i (s.withFetchWord 80 w)))

/-- R46 at the architectural level (log entry 18): a command already latched is performed first. -/
def Obligations.StepCompletesTheAcceptedCommand : Prop :=
  ∀ (s : State) (p : InFlight), s.code ≠ 7 → s.inFlight = some p →
    step s = advanceIndex (exec (decodeCommand (commandWord p.op p.arg)) s)

/-- R222: a reset between two commands is a step of its own that replaces the state by a reset state. The
parameters (R6) and the host's list stay; the host's index moves on (log entry 14). -/
def Obligations.StepOfAResetEvent : Prop :=
  ∀ (s : State) (a : Byte), s.inFlight = none → s.program[s.index]? = some (.reset a) →
    ∃ t, step s = .next t ∧ IsResetState a t ∧ t.statusWord = 0x0000 ∧
      t.params = s.params ∧ t.program = s.program ∧ t.index = s.index + 1

/-- R13, R43 (log entry 6): with nothing in flight and nothing presented, only the handshake registers move. -/
def Obligations.StepOfAnIdleHost : Prop :=
  ∀ s : State, s.code ≠ 7 → s.inFlight = none → s.program[s.index]? = none →
    step s = .next { s with cmdReady := true, rspValid := false }

/-- R16, R99 (log entry 5): ten bytes that are no request frame are received all the same. -/
def Obligations.StepReceivesAnyTenBytes : Prop :=
  ∀ (s : State) (w : WireFrame) (e : DecodeError), s.code ≠ 7 → s.inFlight = none →
    s.program[s.index]? = some (.present (.wire w)) → decodeWire w = .error e →
    step s = .next { s with
      fb := unpackFrame w, len := 10, frameOk := false, dspValid := false, nrgValid := false,
      code := 1, inFlight := none, cmdReady := true, rspValid := true, index := s.index + 1 }

/-- R17, R190: no error stops the block. The one stop is a `CODE` of 7, which no rule produces (X8; log
entry 8), and a reset event clears even that. -/
def Obligations.StepStopsOnlyOnTheReservedCode : Prop :=
  (∀ s : State, s.code ≠ 7 → ∃ t, step s = .next t) ∧
  (∀ s : State, s.code = 7 →
    (s.inFlight ≠ none ∨ ∀ a, s.program[s.index]? ≠ some (.reset a)) →
    step s = .fault .reservedCode)

/-! ## The commands

exec answers the state that the completion edge leaves, so every command ends with `BUSY` 0, `cmd_ready` 1 and
`rsp_valid` 1 (R43, R46): the fields `inFlight`, `cmdReady` and `rspValid` below. -/

/-- R110: the encoding of CLR, its whole effect (every register not named keeps its value), that a second CLR
changes nothing, and that right after reset it changes, of the architectural registers, `CODE` alone. -/
def Obligations.ClrEmptiesTheFrame : Prop :=
  (∀ w : CmdWord, opOf w = 0x01 → decodeCommand w = .clr) ∧
  (∀ s : State, exec .clr s = .next { s with
    len := 0, frameOk := false, dspValid := false, nrgValid := false,
    code := 1, inFlight := none, cmdReady := true, rspValid := true }) ∧
  (∀ s t : State, exec .clr s = .next t → exec .clr t = .next t) ∧
  (∀ (a : Byte) (s : State), IsResetState a s →
    exec .clr s = .next { s with code := 1, cmdReady := true, rspValid := true })

/-- R111: the encoding of PUSH; byte `LEN` is written when `LEN < 10` and no other byte changes; the counter
saturates at 15; the flags are cleared; every register not named keeps its value; and a PUSH on ten bytes makes
the next VAL fail on length. -/
def Obligations.PushAppendsOneByte : Prop :=
  (∀ w : CmdWord, opOf w = 0x02 → decodeCommand w = .push ((argOf w).extractLsb' 0 8)) ∧
  (∀ (s : State) (b : Byte), ∃ t, exec (.push b) s = .next t ∧
    (∀ (i : Nat) (hi : i < 10), t.fb[i] = if i = s.len.toNat then b else s.fb[i]) ∧
    t.len.toNat = min (s.len.toNat + 1) 15 ∧
    t = { s with
      fb := t.fb, len := t.len, frameOk := false, dspValid := false, nrgValid := false,
      code := 1, inFlight := none, cmdReady := true, rspValid := true }) ∧
  (∀ (s : State) (b : Byte), s.len = 10 → ∃ t, runInstrs [.push b, .val] s = .next t ∧
    t.fb = s.fb ∧ t.len = 11 ∧ t.code = 2)

/-- R112: the encoding of ENC, its whole effect, the bound on the high checksum byte, and that a VAL after it
succeeds. The checksum is the exact sum of the four operands. -/
def Obligations.EncBuildsASealedRequest : Prop :=
  (∀ w : CmdWord, opOf w = 0x04 → decodeCommand w =
    .enc ((argOf w).extractLsb' 0 8) ((argOf w).extractLsb' 8 8) ((argOf w).extractLsb' 16 8)
      ((argOf w).extractLsb' 24 8)) ∧
  (∀ (a c p0 p1 : Byte) (s : State),
    exec (.enc a c p0 p1) s = .next { s with
      fb := #v[a, c, p0, p1, 0, 0, 0, 0,
        BitVec.ofNat 8 (a.toNat + c.toNat + p0.toNat + p1.toNat),
        BitVec.ofNat 8 ((a.toNat + c.toNat + p0.toNat + p1.toNat) / 256)]
      sum := BitVec.ofNat 16 (a.toNat + c.toNat + p0.toNat + p1.toNat)
      len := 10, frameOk := false, dspValid := false, nrgValid := false,
      code := 1, inFlight := none, cmdReady := true, rspValid := true }) ∧
  (∀ (a c p0 p1 : Byte) (s t : State), exec (.enc a c p0 p1) s = .next t →
    t.fb[9].toNat ≤ 3 ∧ ∃ u, exec .val t = .next u ∧ u.code = 1)

/-- R113: the encoding of VAL and its whole effect: on a wrong length the flags and `CODE` alone; on ten bytes
`SUM` takes the sum of bytes 0 to 7, and `FRAME_OK` says whether bytes 8 and 9 hold it, low byte first. -/
def Obligations.ValChecksLengthThenChecksum : Prop :=
  (∀ w : CmdWord, opOf w = 0x03 → decodeCommand w = .val) ∧
  (∀ s : State, s.len ≠ 10 → exec .val s = .next { s with
    frameOk := false, dspValid := false, nrgValid := false,
    code := 2, inFlight := none, cmdReady := true, rspValid := true }) ∧
  (∀ (s : State) (sum : Nat), s.len = 10 →
    sum = s.fb[0].toNat + s.fb[1].toNat + s.fb[2].toNat + s.fb[3].toNat
      + s.fb[4].toNat + s.fb[5].toNat + s.fb[6].toNat + s.fb[7].toNat →
    (s.fb[8] = BitVec.ofNat 8 sum ∧ s.fb[9] = BitVec.ofNat 8 (sum / 256) →
      exec .val s = .next { s with
        sum := BitVec.ofNat 16 sum, frameOk := true, dspValid := false, nrgValid := false,
        code := 1, inFlight := none, cmdReady := true, rspValid := true }) ∧
    (¬ (s.fb[8] = BitVec.ofNat 8 sum ∧ s.fb[9] = BitVec.ofNat 8 (sum / 256)) →
      exec .val s = .next { s with
        sum := BitVec.ofNat 16 sum, frameOk := false, dspValid := false, nrgValid := false,
        code := 3, inFlight := none, cmdReady := true, rspValid := true }))

/-- R140: the encoding of REQD; an unknown code changes `CODE` alone; a known one has the effect of ENC `ADDR`,
0x3B, code, 0x00, with the checksum `ADDR + 59 + code`, whose high byte is at most 1. -/
def Obligations.ReqdBuildsOrRefuses : Prop :=
  (∀ w : CmdWord, opOf w = 0x05 → decodeCommand w = .reqd ((argOf w).extractLsb' 0 8)) ∧
  (∀ (code : Byte) (s : State), dspParameter code = none →
    exec (.reqd code) s = .next { s with
      code := 5, inFlight := none, cmdReady := true, rspValid := true }) ∧
  (∀ (code : Byte) (s : State), dspParameter code ≠ none →
    exec (.reqd code) s = exec (.enc s.addr 0x3B code 0x00) s ∧
    exec (.reqd code) s = .next { s with
      fb := #v[s.addr, 0x3B, code, 0, 0, 0, 0, 0,
        BitVec.ofNat 8 (s.addr.toNat + 59 + code.toNat),
        BitVec.ofNat 8 ((s.addr.toNat + 59 + code.toNat) / 256)]
      sum := BitVec.ofNat 16 (s.addr.toNat + 59 + code.toNat)
      len := 10, frameOk := false, dspValid := false, nrgValid := false,
      code := 1, inFlight := none, cmdReady := true, rspValid := true } ∧
    (s.addr.toNat + 59 + code.toNat) / 256 ≤ 1)

/-- R141: the encoding of REQE; a period outside the catalog changes `CODE` alone; a known one has the effect of
ENC `ADDR`, 0x4E, period, `P_ENERGY_PARAM1`. -/
def Obligations.ReqeBuildsOrRefuses : Prop :=
  (∀ w : CmdWord, opOf w = 0x06 → decodeCommand w = .reqe ((argOf w).extractLsb' 0 8)) ∧
  (∀ (period : Byte) (s : State), (period = 2 ∨ 5 < period.toNat) →
    exec (.reqe period) s = .next { s with
      code := 5, inFlight := none, cmdReady := true, rspValid := true }) ∧
  (∀ (period : Byte) (s : State), ¬ (period = 2 ∨ 5 < period.toNat) →
    exec (.reqe period) s = exec (.enc s.addr 0x4E period s.params.energyParam1) s ∧
    exec (.reqe period) s = .next { s with
      fb := #v[s.addr, 0x4E, period, s.params.energyParam1, 0, 0, 0, 0,
        BitVec.ofNat 8 (s.addr.toNat + 78 + period.toNat + s.params.energyParam1.toNat),
        BitVec.ofNat 8 ((s.addr.toNat + 78 + period.toNat + s.params.energyParam1.toNat) / 256)]
      sum := BitVec.ofNat 16 (s.addr.toNat + 78 + period.toNat + s.params.energyParam1.toNat)
      len := 10, frameOk := false, dspValid := false, nrgValid := false,
      code := 1, inFlight := none, cmdReady := true, rspValid := true })

/-- R160: the encoding of DECD; `NO_FRAME` first, then `UNKNOWN_PARAM`, each clearing `DSP_VALID` alone; on
success the raw value, the code, its K and unit, and the exact product. -/
def Obligations.DecdDecodesOrRefuses : Prop :=
  (∀ w : CmdWord, opOf w = 0x07 → decodeCommand w = .decd ((argOf w).extractLsb' 0 8)) ∧
  (∀ (code : Byte) (s : State), s.frameOk = false →
    exec (.decd code) s = .next { s with
      dspValid := false, code := 4, inFlight := none, cmdReady := true, rspValid := true }) ∧
  (∀ (code : Byte) (s : State), s.frameOk = true → dspParameter code = none →
    exec (.decd code) s = .next { s with
      dspValid := false, code := 5, inFlight := none, cmdReady := true, rspValid := true }) ∧
  (∀ (code : Byte) (p : DspParameter) (s : State), s.frameOk = true → dspParameter code = some p →
    exec (.decd code) s = .next { s with
      raw16 := BitVec.ofNat 16 (s.fb[6].toNat + 256 * s.fb[7].toNat)
      dspParam := code
      dspK := BitVec.ofNat 2 (dspExponent s.params p).val
      dspUnit := unitCode (dspUnitOf p)
      scaled := BitVec.ofNat 24 ((s.fb[6].toNat + 256 * s.fb[7].toNat)
        * 10 ^ (2 - (dspExponent s.params p).val))
      dspValid := true, code := 1, inFlight := none, cmdReady := true, rspValid := true })

/-- R165: the encoding of DECE; `NO_FRAME` clears `NRG_VALID` alone; on success the word of bytes 5, 4, 7, 4
(`OBSERVED`) or 5, 4, 7, 6 (`ALTERNATE`); under `OBSERVED` byte 6 has no effect and the top byte is byte 4. -/
def Obligations.DeceReassemblesOrRefuses : Prop :=
  (∀ w : CmdWord, opOf w = 0x08 → decodeCommand w = .dece) ∧
  (∀ s : State, s.frameOk = false →
    exec .dece s = .next { s with
      nrgValid := false, code := 4, inFlight := none, cmdReady := true, rspValid := true }) ∧
  (∀ s : State, s.frameOk = true → s.params.energyOrder = .observed →
    exec .dece s = .next { s with
      raw32 := BitVec.ofNat 32 (s.fb[5].toNat + 2 ^ 8 * s.fb[4].toNat + 2 ^ 16 * s.fb[7].toNat
        + 2 ^ 24 * s.fb[4].toNat)
      nrgValid := true, code := 1, inFlight := none, cmdReady := true, rspValid := true }) ∧
  (∀ s : State, s.frameOk = true → s.params.energyOrder = .alternate →
    exec .dece s = .next { s with
      raw32 := BitVec.ofNat 32 (s.fb[5].toNat + 2 ^ 8 * s.fb[4].toNat + 2 ^ 16 * s.fb[7].toNat
        + 2 ^ 24 * s.fb[6].toNat)
      nrgValid := true, code := 1, inFlight := none, cmdReady := true, rspValid := true }) ∧
  (∀ s t : State, s.frameOk = true → s.params.energyOrder = .observed → exec .dece s = .next t →
    t.raw32.extractLsb' 24 8 = s.fb[4] ∧ t.raw32.extractLsb' 8 8 = s.fb[4] ∧
    (t.energyWh < 0 ↔ s.fb[4].getLsbD 7 = true))

/-- R196: a reserved opcode completes with `ILLEGAL_OP`, and every other register keeps its value. Every word
with opcode 0x00 or 0x09 to 0xFF is one (R85), and each of the eight rows' instructions completes so. -/
def Obligations.ReservedOpcodesReportIllegalOp : Prop :=
  (∀ w : CmdWord, opOf w = 0x00 ∨ 0x09 ≤ (opOf w).toNat → (decodeCommand w).kind = .reserved) ∧
  (∀ (i : Instr) (s : State), i.kind = .reserved →
    exec i s = .next { s with
      code := 6, inFlight := none, cmdReady := true, rspValid := true })

/-- R87 (the model's reading, log entry 5): either request frame, received, leaves its ten bytes in the buffer,
ten in the counter, the flags clear, and every other register as it was. -/
def Obligations.WireFramesAreReceived : Prop :=
  (∀ (a code lo hi : Byte) (s : State),
    exec (.wireReqDsp a code lo hi) s = .next { s with
      fb := #v[a, 0x3B, code, 0x00, 0, 0, 0, 0, lo, hi]
      len := 10, frameOk := false, dspValid := false, nrgValid := false,
      code := 1, inFlight := none, cmdReady := true, rspValid := true }) ∧
  (∀ (a period p1 lo hi : Byte) (s : State),
    exec (.wireReqEnergy a period p1 lo hi) s = .next { s with
      fb := #v[a, 0x4E, period, p1, 0, 0, 0, 0, lo, hi]
      len := 10, frameOk := false, dspValid := false, nrgValid := false,
      code := 1, inFlight := none, cmdReady := true, rspValid := true })

/-- R99 (log entry 5): a request frame has the effect of FRAME of its ten bytes, run as eleven commands. -/
def Obligations.WireFrameIsTheFrameExpansion : Prop :=
  (∀ (a code lo hi : Byte) (s : State),
    runInstrs (expandPseudo (.frame [a, 0x3B, code, 0, 0, 0, 0, 0, lo, hi])) s
      = exec (.wireReqDsp a code lo hi) s) ∧
  (∀ (a period p1 lo hi : Byte) (s : State),
    runInstrs (expandPseudo (.frame [a, 0x4E, period, p1, 0, 0, 0, 0, lo, hi])) s
      = exec (.wireReqEnergy a period p1 lo hi) s)

/-- R44, R87, R140, R141: a frame that REQD or REQE built, read from the wide port, decodes as the table's
request row with the device address and the code, and is well formed. -/
def Obligations.BuiltRequestsMatchTheWireRows : Prop :=
  (∀ (code : Byte) (s t : State), exec (.reqd code) s = .next t → t.code = 1 →
    decode (.wire t.fbPort) = .ok (.wireReqDsp s.addr code t.fb[8] t.fb[9]) ∧
    (Instr.wireReqDsp s.addr code t.fb[8] t.fb[9]).wellFormed = true) ∧
  (∀ (period : Byte) (s t : State), exec (.reqe period) s = .next t → t.code = 1 →
    decode (.wire t.fbPort)
      = .ok (.wireReqEnergy s.addr period s.params.energyParam1 t.fb[8] t.fb[9]) ∧
    (Instr.wireReqEnergy s.addr period s.params.energyParam1 t.fb[8] t.fb[9]).wellFormed = true)

/-- R90, R113, R142(b): a well-formed request frame handed to the block passes VAL. -/
def Obligations.WellFormedWireFramesPassVal : Prop :=
  ∀ (i : Instr) (s : State), i.kind = .wireFrame → i.wellFormed = true →
    ∃ t, runInstrs [i, .val] s = .next t ∧ t.code = 1 ∧ t.frameOk = true

/-! ## Laws of the checksum and the frame -/

/-- R114: the checksum is the exact sum of the eight bytes, at most 2040, so it fits bits 10:0 and bits 15:11
are 0; the 16-bit cut never removes a set bit, and an 11-bit sum is the same; and bits 15:11 of `SUM` are 0 when
an instruction has written it. -/
def Obligations.ChecksumIsTheExactSum : Prop :=
  (∀ f : Frame,
    (cksum f).toNat = f[0].toNat + f[1].toNat + f[2].toNat + f[3].toNat
      + f[4].toNat + f[5].toNat + f[6].toNat + f[7].toNat ∧
    (cksum f).toNat ≤ 2040 ∧ (cksum f).extractLsb' 11 5 = 0 ∧
    (cksum f).extractLsb' 0 11 = BitVec.ofNat 11 (f[0].toNat + f[1].toNat + f[2].toNat
      + f[3].toNat + f[4].toNat + f[5].toNat + f[6].toNat + f[7].toNat)) ∧
  (∀ (i : Instr) (s t : State), exec i s = .next t →
    t.sum = s.sum ∨ t.sum.extractLsb' 11 5 = 0)

/-- R115: any eight bytes, received with their checksum's low and high byte and validated, complete with `OK`
and are the payload; and ENC followed by VAL completes with `OK`. -/
def Obligations.ChecksumRoundTrip : Prop :=
  (∀ (bs : Vector Byte 8) (s : State),
    ∃ t, runInstrs (expandPseudo (.check (bs.toList ++
        [BitVec.ofNat 8 (bs.toList.map BitVec.toNat).sum,
         BitVec.ofNat 8 ((bs.toList.map BitVec.toNat).sum / 256)]))) s = .next t ∧
      t.code = 1 ∧ t.frameOk = true ∧
      ∀ (i : Nat) (hi : i < 8), t.payloadPort.extractLsb' (8 * i) 8 = bs[i]) ∧
  (∀ (a c p0 p1 : Byte) (s : State),
    ∃ t, runInstrs [.enc a c p0 p1, .val] s = .next t ∧ t.code = 1)

/-- R116: replacing any one byte of a frame that passes VAL, one of the eight or one of the checksum's two,
makes VAL fail with `CHECKSUM_MISMATCH`. -/
def Obligations.SingleByteCorruptionIsDetected : Prop :=
  ∀ (s t : State) (i : Nat) (hi : i < 10) (v : Byte),
    exec .val s = .next t → t.code = 1 → v ≠ s.fb[i] →
    ∃ u, exec .val { s with fb := s.fb.set i v } = .next u ∧ u.code = 3 ∧ u.frameOk = false

/-- R117: any number of received bytes other than ten fails with `INVALID_LENGTH`, and `SUM` keeps its value;
nine and eleven are such numbers. -/
def Obligations.WrongLengthNeverChecks : Prop :=
  ∀ (bytes : List Byte) (s : State), bytes.length ≠ 10 →
    ∃ t, runInstrs (expandPseudo (.check bytes)) s = .next t ∧ t.code = 2 ∧ t.sum = s.sum

/-- R118: a frame whose last byte is 8 or more never passes VAL. -/
def Obligations.HighChecksumByteNeverPasses : Prop :=
  ∀ s t : State, 8 ≤ s.fb[9].toNat → exec .val s = .next t → t.code ≠ 1 ∧ t.frameOk = false

/-- R119: what the checksum does not detect: two bytes that move by `+d` and `-d`, a permutation of bytes 0 to
7, a byte and `FB[8]` that both move by `+d` without crossing a multiple of 256; and a swap of `FB[8]` and
`FB[9]` is detected when they differ. -/
def Obligations.UndetectedCorruptions : Prop :=
  ∀ s t : State, exec .val s = .next t → t.code = 1 →
    (∀ (i j d : Nat) (hi : i < 8) (hj : j < 8) (f : Frame), i ≠ j →
      s.fb[i].toNat + d < 256 → d ≤ s.fb[j].toNat →
      f = (s.fb.set i (BitVec.ofNat 8 (s.fb[i].toNat + d))).set j
        (BitVec.ofNat 8 (s.fb[j].toNat - d)) →
      ∃ u, exec .val { s with fb := f } = .next u ∧ u.code = 1) ∧
    (∀ f : Frame, (f.toList.take 8).Perm (s.fb.toList.take 8) → f[8] = s.fb[8] → f[9] = s.fb[9] →
      ∃ u, exec .val { s with fb := f } = .next u ∧ u.code = 1) ∧
    (∀ (i d : Nat) (hi : i < 8) (f : Frame), s.fb[i].toNat + d < 256 → s.fb[8].toNat + d < 256 →
      f = (s.fb.set i (BitVec.ofNat 8 (s.fb[i].toNat + d))).set 8
        (BitVec.ofNat 8 (s.fb[8].toNat + d)) →
      ∃ u, exec .val { s with fb := f } = .next u ∧ u.code = 1) ∧
    (s.fb[8] ≠ s.fb[9] →
      ∃ u, exec .val { s with fb := (s.fb.set 8 s.fb[9]).set 9 s.fb[8] } = .next u ∧ u.code = 3)

/-- R24, R111, R99: after FRAME of any bytes from any state the counter is their number, saturating at 15, the
first ten stand in order, and the bytes beyond them are as before. -/
def Obligations.FrameCountsAndKeepsTenBytes : Prop :=
  ∀ (bytes : List Byte) (s : State),
    ∃ t, runInstrs (expandPseudo (.frame bytes)) s = .next t ∧
      t.len.toNat = min bytes.length 15 ∧ t.code = 1 ∧ t.sum = s.sum ∧
      ∀ (i : Nat) (hi : i < 10), t.fb[i] = bytes.getD i s.fb[i]

/-- R142: the laws of a successful REQD or REQE, with `c` the command code and `q` the byte 3 it writes: bytes
4 to 7 are 0, the frame passes a following VAL, the checksum is `ADDR + c + p + q`, and `ADDR` stays. -/
def Obligations.RequestLaws : Prop :=
  ∀ (i : Instr) (c p q : Byte) (s t : State), exec i s = .next t → t.code = 1 →
    ((i = .reqd p ∧ c = 0x3B ∧ q = 0x00) ∨
      (i = .reqe p ∧ c = 0x4E ∧ q = s.params.energyParam1)) →
    t.fb[3] = q ∧
    (t.fb[4] = 0 ∧ t.fb[5] = 0 ∧ t.fb[6] = 0 ∧ t.fb[7] = 0) ∧
    (∃ u, exec .val t = .next u ∧ u.code = 1) ∧
    (t.fb[8].toNat + 256 * t.fb[9].toNat = s.addr.toNat + c.toNat + p.toNat + q.toNat ∧
      t.sum.toNat = s.addr.toNat + c.toNat + p.toNat + q.toNat) ∧
    t.addr = s.addr

/-- R227: a decode after a build fails with `NO_FRAME`, because the build cleared `FRAME_OK`. -/
def Obligations.LateDecodeFindsNoFrame : Prop :=
  ∀ (build late : Instr) (s t u : State),
    ((∃ a c p0 p1, build = .enc a c p0 p1) ∨ build.kind = .request) →
    (late.kind = .dspDecode ∨ late.kind = .energyDecode) →
    exec build s = .next t → t.code = 1 → exec late t = .next u → u.code = 4

/-- R228, R111: bytes pushed with no CLR before them go after the old content, and VAL reports `INVALID_LENGTH`
whenever old and new bytes together are not ten; so it does for any bytes pushed at `LEN` 10 to 15. Right after
reset no CLR is needed. -/
def Obligations.ForgottenClrIsReported : Prop :=
  (∀ (bytes : List Byte) (s : State), s.len.toNat + bytes.length ≠ 10 →
    ∃ t, runInstrs (bytes.map .push ++ [.val]) s = .next t ∧ t.code = 2) ∧
  (∀ (bytes : List Byte) (s : State), 10 ≤ s.len.toNat → bytes ≠ [] →
    ∃ t, runInstrs (bytes.map .push ++ [.val]) s = .next t ∧ t.code = 2 ∧ t.fb = s.fb ∧
      t.sum = s.sum) ∧
  (∀ (a : Byte) (bytes : List Byte) (s : State), IsResetState a s → bytes ≠ [] →
    runInstrs (bytes.map .push) s = runInstrs (expandPseudo (.frame bytes)) s)

/-! ## Laws of the decoders and the ports -/

/-- R162, R163: after a successful DECD, `SCALED` is the exact product, the physical value is
`RAW16 × 10^-K = SCALED / 100`, and it lies between 0 and `65535 / 10^K`. -/
def Obligations.ScaledValueIsExact : Prop :=
  ∀ (code : Byte) (s t : State), exec (.decd code) s = .next t → t.code = 1 →
    t.dspK.toNat ≤ 2 ∧
    t.scaled.toNat = t.raw16.toNat * 10 ^ (2 - t.dspK.toNat) ∧
    t.scaled.toNat ≤ 6553500 ∧ t.scaled.getLsbD 23 = false ∧
    t.phys = (t.raw16.toNat : Rat) / 10 ^ t.dspK.toNat ∧
    t.phys = (t.scaled.toNat : Rat) / 100 ∧
    0 ≤ t.phys ∧ t.phys ≤ 65535 / 10 ^ t.dspK.toNat

/-- R10, R167: the energy is the two's-complement reading of `RAW32`, from -2^31 to 2^31 - 1. -/
def Obligations.EnergyIsTwosComplement : Prop :=
  ∀ s : State, s.energyWh = s.raw32.toInt ∧ -2 ^ 31 ≤ s.energyWh ∧ s.energyWh ≤ 2 ^ 31 - 1 ∧
    (s.raw32.toNat : Int) = s.energyWh % 2 ^ 32

/-- R31, R37: the fields of the status word and of the DSP information word, with their hardwired zeros; the
status word is 0 in every reset state. -/
def Obligations.StatusAndInfoFields : Prop :=
  (∀ s : State,
    s.statusWord.extractLsb' 0 3 = s.code ∧ s.statusWord.getLsbD 3 = s.frameOk ∧
    s.statusWord.getLsbD 4 = s.dspValid ∧ s.statusWord.getLsbD 5 = s.nrgValid ∧
    s.statusWord.getLsbD 6 = s.inFlight.isSome ∧ s.statusWord.getLsbD 7 = false ∧
    s.statusWord.extractLsb' 8 4 = s.len ∧ s.statusWord.extractLsb' 12 4 = 0 ∧
    s.dspInfo.extractLsb' 0 8 = s.dspParam ∧ s.dspInfo.extractLsb' 8 2 = s.dspK ∧
    s.dspInfo.extractLsb' 10 2 = s.dspUnit ∧ s.dspInfo.extractLsb' 12 4 = 0) ∧
  (∀ (a : Byte) (s : State), IsResetState a s → s.statusWord = 0x0000)

/-- R44: byte `i` of the buffer stands in bits `8i+7:8i` of the wide port, and the port's top 16 bits and bits
63:48 are the checksum field and the DSP raw field as numbers. -/
def Obligations.WidePortPacksTheBytes : Prop :=
  ∀ s : State,
    (∀ (i : Nat) (hi : i < 10), s.fbPort.extractLsb' (8 * i) 8 = s.fb[i]) ∧
    s.fbPort.extractLsb' 64 16 = le16 s.fb[8] s.fb[9] ∧
    s.fbPort.extractLsb' 48 16 = le16 s.fb[6] s.fb[7] ∧
    (∀ (i : Nat) (hi : i < 8), s.payloadPort.extractLsb' (8 * i) 8 = s.fb[i])

/-! ## Rules over all instructions -/

/-- R191, R197: each error code has exactly its cause, in the order of priority, and what it records. -/
def Obligations.EachCodeHasItsCause : Prop :=
  ∀ (i : Instr) (s t : State), exec i s = .next t →
    (t.code = 2 ↔ i = .val ∧ s.len ≠ 10) ∧
    (t.code = 3 ↔ i = .val ∧ s.len = 10 ∧
      ¬ (s.fb[8] = lowByte (cksum s.fb) ∧ s.fb[9] = highByte (cksum s.fb))) ∧
    (t.code = 4 ↔ (i = .dece ∨ ∃ c, i = .decd c) ∧ s.frameOk = false) ∧
    (t.code = 5 ↔ (∃ c, i = .reqd c ∧ dspParameter c = none) ∨
      (∃ c, i = .reqe c ∧ energyPeriod c = none) ∨
      (∃ c, i = .decd c ∧ s.frameOk = true ∧ dspParameter c = none)) ∧
    (t.code = 6 ↔ i.kind = .reserved) ∧
    t.code ≠ 0 ∧ t.code ≠ 7 ∧
    (t.code = 2 → t.len = s.len) ∧
    (t.code = 3 → t.sum = cksum s.fb ∧ t.fb = s.fb)

/-- R39, R6, R21: no instruction writes `ADDR`, the parameters, or the host's list and index. -/
def Obligations.AddressAndParametersNeverChange : Prop :=
  ∀ (i : Instr) (s t : State), exec i s = .next t →
    t.addr = s.addr ∧ t.params = s.params ∧ t.program = s.program ∧ t.index = s.index ∧
    t.draws = s.draws

/-- R27: what sets, clears and keeps `FRAME_OK`, over all commands, and that reset clears it. -/
def Obligations.FrameOkIsSetOnlyByVal : Prop :=
  (∀ (i : Instr) (s t : State), exec i s = .next t →
    (s.frameOk = false → t.frameOk = true → i = .val ∧ t.code = 1) ∧
    (i = .val → (t.frameOk = true ↔ t.code = 1)) ∧
    (i.kind = .frameEdit ∨ (i.kind = .request ∧ t.code = 1) → t.frameOk = false) ∧
    (i.kind = .dspDecode ∨ i.kind = .energyDecode ∨ (i.kind = .request ∧ t.code ≠ 1) ∨
      i.kind = .reserved → t.frameOk = s.frameOk)) ∧
  (∀ (s : State) (a : Byte), (s.resetLoad a).frameOk = false)

/-- R28: what sets, clears and keeps `DSP_VALID`, over all commands, and that reset clears it. -/
def Obligations.DspValidIsSetOnlyByDecd : Prop :=
  (∀ (i : Instr) (s t : State), exec i s = .next t →
    (i.kind = .dspDecode → (t.dspValid = true ↔ t.code = 1)) ∧
    (i.kind = .frameEdit ∨ i.kind = .validation ∨ (i.kind = .request ∧ t.code = 1) →
      t.dspValid = false) ∧
    (i.kind = .energyDecode ∨ (i.kind = .request ∧ t.code ≠ 1) ∨ i.kind = .reserved →
      t.dspValid = s.dspValid)) ∧
  (∀ (s : State) (a : Byte), (s.resetLoad a).dspValid = false)

/-- R29: what sets, clears and keeps `NRG_VALID`, over all commands, and that reset clears it. -/
def Obligations.NrgValidIsSetOnlyByDece : Prop :=
  (∀ (i : Instr) (s t : State), exec i s = .next t →
    (i.kind = .energyDecode → (t.nrgValid = true ↔ t.code = 1)) ∧
    (i.kind = .frameEdit ∨ i.kind = .validation ∨ (i.kind = .request ∧ t.code = 1) →
      t.nrgValid = false) ∧
    (i.kind = .dspDecode ∨ (i.kind = .request ∧ t.code ≠ 1) ∨ i.kind = .reserved →
      t.nrgValid = s.nrgValid)) ∧
  (∀ (s : State) (a : Byte), (s.resetLoad a).nrgValid = false)

/-- R25, R32, R38, R41: which instructions may change `SUM` and the result registers, and to what. -/
def Obligations.ResultRegistersHaveTheirWriters : Prop :=
  ∀ (i : Instr) (s t : State), exec i s = .next t →
    (t.sum = s.sum ∨ (t.sum = cksum t.fb ∧ t.sum.extractLsb' 11 5 = 0 ∧
      ((∃ a c p0 p1, i = .enc a c p0 p1) ∨ (i.kind = .request ∧ t.code = 1) ∨
        (i = .val ∧ s.len = 10)))) ∧
    (i.kind ≠ .dspDecode ∨ t.code ≠ 1 →
      t.raw16 = s.raw16 ∧ t.dspParam = s.dspParam ∧ t.dspK = s.dspK ∧ t.dspUnit = s.dspUnit ∧
      t.scaled = s.scaled) ∧
    (i.kind ≠ .energyDecode ∨ t.code ≠ 1 → t.raw32 = s.raw32)

/-- R198: what a failing command leaves: `FB` and `LEN` never change; a failing VAL clears the three flags and
writes `SUM` only on a mismatch; a failing DECD or DECE clears its own flag only; a failing REQD or REQE and a
reserved opcode change `CODE` alone (beside the completion's handshake registers, R46). -/
def Obligations.FailuresArePrecise : Prop :=
  ∀ (i : Instr) (s t : State), exec i s = .next t → t.code ≠ 1 →
    t.fb = s.fb ∧ t.len = s.len ∧
    (i.kind = .validation → t = { s with
      frameOk := false, dspValid := false, nrgValid := false,
      sum := if t.code = 3 then cksum s.fb else s.sum,
      code := t.code, inFlight := none, cmdReady := true, rspValid := true }) ∧
    (i.kind = .dspDecode → t = { s with
      dspValid := false, code := t.code, inFlight := none, cmdReady := true, rspValid := true }) ∧
    (i.kind = .energyDecode → t = { s with
      nrgValid := false, code := t.code, inFlight := none, cmdReady := true, rspValid := true }) ∧
    (i.kind = .request ∨ i.kind = .reserved → t = { s with
      code := t.code, inFlight := none, cmdReady := true, rspValid := true })

/-- R68: every command but PUSH is idempotent, and PUSH is not, whatever its byte. -/
def Obligations.CommandsButPushAreIdempotent : Prop :=
  (∀ (i : Instr) (s t : State), (∀ b, i ≠ .push b) → exec i s = .next t → exec i t = .next t) ∧
  (∀ b : Byte, ∃ s t u : State, exec (.push b) s = .next t ∧ exec (.push b) t = .next u ∧ u ≠ t)

/-! ## Invariants -/

/-- R40, R220: the state after reset meets the invariants, and is a reset state whose sampled address is the
model's choice 0x02 (log entry 3). -/
def Obligations.ResetMeetsTheInvariants : Prop :=
  ArchInv State.reset ∧ PortInv State.reset ∧ IsResetState 0x02 State.reset

/-- R40: every architectural step, a reset event and an idle host included, keeps I1 to I5 (with R33 and R34
beside I2), and keeps the port level's invariant. -/
def Obligations.StepKeepsTheInvariants : Prop :=
  ∀ s t : State, ArchInv s → PortInv s → step s = .next t → ArchInv t ∧ PortInv t

/-- R40, R43, R46: every clock edge, whatever the input pins, keeps the same invariants. -/
def Obligations.ClockEdgeKeepsTheInvariants : Prop :=
  ∀ (inp : PortIn) (s t : State), ArchInv s → PortInv s → clockEdge inp s = .next t →
    ArchInv t ∧ PortInv t

/-! ## The port level -/

/-- R5, R45, R46: a command presented to a block at rest is accepted at the edge where `cmd_ready` is 1 and,
exactly `P_LAT` edges later, leaves the very state that the architectural step gives: the port level adds no
behaviour. Where `cmd_ready` is still 0, one edge more. The inputs while `BUSY` is 1 do not matter. The last clause
compares with `step`, whose form and whose host list and index (R21) are the model's (log entries 6 and 7). -/
def Obligations.PortLevelPerformsTheCommand : Prop :=
  ∀ (s : State) (w : CmdWord) (first : PortIn) (rest : List PortIn),
    s.code ≠ 7 → s.inFlight = none → s.params.legal →
    first.rst = false → first.cmdValid = true → first.cmdOp = opOf w → first.cmdArg = argOf w →
    (∀ p ∈ rest, p.rst = false) → rest.length = s.params.latency →
    (s.cmdReady = true → clockRun (first :: rest) s = exec (decodeCommand w) s) ∧
    (s.cmdReady = false → clockRun (first :: first :: rest) s = exec (decodeCommand w) s) ∧
    (s.program[s.index]? = some (.present (.command w)) →
      step s = advanceIndex (exec (decodeCommand w) s))

/-- R46: between acceptance and completion nothing changes but the handshake registers and the edges left, and
`cmd_ready` and `rsp_valid` are 0. -/
def Obligations.RegistersHoldWhileBusy : Prop :=
  ∀ (s : State) (p : InFlight) (ins : List PortIn),
    s.code ≠ 7 → s.inFlight = some p → (∀ q ∈ ins, q.rst = false) → ins.length < p.remaining →
    ins ≠ [] →
    clockRun ins s = .next { s with
      inFlight := some { p with remaining := p.remaining - ins.length },
      cmdReady := false, rspValid := false }

/-- R43, R46: after any edge, `rsp_valid` is 1 exactly when that edge completed a command, `cmd_ready` is the
complement of `BUSY`, or 0 after an edge with `rst = 1`, and an edge that completes a command shows on `rsp_status`
the `CODE` that the command writes, which is also `status_o[2:0]` (the port stands for `CODE` by log entry 17; the
count of edges left is log entry 9). With `rsp_valid` 0 there is no response. -/
def Obligations.HandshakeRegistersFollowTheEdge : Prop :=
  ∀ (inp : PortIn) (s t : State), clockEdge inp s = .next t →
    (t.rspValid = true ↔ inp.rst = false ∧ ∃ p, s.inFlight = some p ∧ p.remaining ≤ 1) ∧
    t.cmdReady = (!inp.rst && t.inFlight.isNone) ∧
    (∀ p, inp.rst = false → s.inFlight = some p → p.remaining ≤ 1 →
      ∃ u, exec (decodeCommand (commandWord p.op p.arg)) s = .next u ∧
        t.response? = some u.code ∧ t.rspStatus = u.code ∧
        t.statusWord.extractLsb' 0 3 = u.code) ∧
    (t.rspValid = false → t.response? = none)

/-- R221, R222: an edge with `rst = 1` gives a reset state from any state, a command in flight included, which is
abandoned with no response; the first edge with `rst = 0` after it accepts nothing and raises `cmd_ready`. -/
def Obligations.ResetEdgeAbandonsTheCommand : Prop :=
  ∀ (inp : PortIn) (s : State), inp.rst = true →
    ∃ t, clockEdge inp s = .next t ∧ IsResetState inp.cfgAddr t ∧ t.params = s.params ∧
      ∀ inp' : PortIn, inp'.rst = false →
        clockEdge inp' t = .next { t with cmdReady := true, rspValid := false }

/-! ## Headline results -/

/-- R23, R25, R220, R223, R225: what a reset draws never reaches a value that the host may rely on. From two reset
states that differ only in drawn registers, the same instructions give the same status codes, and at the end the
same status word and address, the same results under their flags, the same bytes of `FB` below `LEN` (with ten
bytes counted, a built request or a received frame, all of `fb_o`), and, once an instruction of the run wrote `SUM`,
the same `sum_o`. -/
def Obligations.DrawsNeverReachTheHost : Prop :=
  ∀ (a : Byte) (s t : State) (is : List Instr),
    IsResetState a s → IsResetState a t → s.params = t.params →
    statusTrace is s = statusTrace is t ∧
    ∀ s' t', runInstrs is s = .next s' → runInstrs is t = .next t' →
      s'.statusWord = t'.statusWord ∧ s'.addrPort = t'.addrPort ∧ s'.payload? = t'.payload? ∧
      s'.dspResult? = t'.dspResult? ∧ s'.energy? = t'.energy? ∧
      (∀ (i : Nat) (hi : i < 10), i < s'.len.toNat → s'.fb[i] = t'.fb[i]) ∧
      (10 ≤ s'.len.toNat → s'.fbPort = t'.fbPort) ∧
      (SumWritten is s → s'.sumPort = t'.sumPort)

/-- R99, R115, R160, R161, R162: from any state, ten received bytes with a true checksum decode to the little-endian
value of bytes 6 and 7, with the parameter's code, exponent and unit, `SCALED` the exact product with the
parameter's constant, and the physical value the exact quotient. -/
def Obligations.ReceivedDspResponseDecodes : Prop :=
  ∀ (f : Frame) (code : Byte) (p : DspParameter) (s : State), dspParameter code = some p →
    f[8].toNat + 256 * f[9].toNat = f[0].toNat + f[1].toNat + f[2].toNat + f[3].toNat
      + f[4].toNat + f[5].toNat + f[6].toNat + f[7].toNat →
    ∃ t, runInstrs (expandPseudo (.rxdsp code f)) s = .next t ∧
      t.code = 1 ∧ t.fb = f ∧ t.frameOk = true ∧ t.dspValid = true ∧
      t.raw16.toNat = f[6].toNat + 256 * f[7].toNat ∧
      t.dspParam = code ∧ t.dspK.toNat = (dspExponent s.params p).val ∧
      t.scaled.toNat = (f[6].toNat + 256 * f[7].toNat) * 10 ^ (2 - (dspExponent s.params p).val) ∧
      t.phys = ((f[6].toNat + 256 * f[7].toNat : Nat) : Rat) / 10 ^ (dspExponent s.params p).val ∧
      t.dspUnit = unitCode (dspUnitOf p)

/-- R99, R115, R165, R166, R167: from any state, ten received bytes with a true checksum decode to the signed
little-endian value of bytes 5, 4, 7, 4, under the normative order. -/
def Obligations.ReceivedEnergyResponseDecodes : Prop :=
  ∀ (f : Frame) (s : State), s.params.energyOrder = .observed →
    f[8].toNat + 256 * f[9].toNat = f[0].toNat + f[1].toNat + f[2].toNat + f[3].toNat
      + f[4].toNat + f[5].toNat + f[6].toNat + f[7].toNat →
    ∃ t, runInstrs (expandPseudo (.rxnrg f)) s = .next t ∧
      t.code = 1 ∧ t.fb = f ∧ t.nrgValid = true ∧
      t.energyWh = (f[5].toNat : Int) + 2 ^ 8 * f[4].toNat + 2 ^ 16 * f[7].toNat
        + 2 ^ 24 * f[4].toInt

/-- R98, R99: the words of each pseudo-instruction's expansion, written out from R98's table, opcode byte then
argument: FRAME is `01_00000000` and then `02_000000bb` for each byte; CHECK adds `03_00000000`; RXDSP adds
`07_000000{code}` to the CHECK of its ten bytes, and RXNRG `08_00000000`. And FRAME's words decode to CLR and the
PUSH of each byte. -/
def Obligations.ExpansionsAssembleToTheirCommands : Prop :=
  (∀ bytes : List Byte, commandWords (expandPseudo (.frame bytes)) =
    0x0100000000 :: bytes.map (fun b => 0x02#8 ++ 0x000000#24 ++ b)) ∧
  (∀ bytes : List Byte, commandWords (expandPseudo (.check bytes)) =
    0x0100000000 :: (bytes.map (fun b => 0x02#8 ++ 0x000000#24 ++ b) ++ [0x0300000000])) ∧
  (∀ (code : Byte) (f : Frame), commandWords (expandPseudo (.rxdsp code f)) =
    0x0100000000 :: (f.toList.map (fun b => 0x02#8 ++ 0x000000#24 ++ b) ++
      [0x0300000000, 0x07#8 ++ 0x000000#24 ++ code])) ∧
  (∀ f : Frame, commandWords (expandPseudo (.rxnrg f)) =
    0x0100000000 :: (f.toList.map (fun b => 0x02#8 ++ 0x000000#24 ++ b) ++
      [0x0300000000, 0x0800000000])) ∧
  (∀ bytes : List Byte,
    (commandWords (expandPseudo (.frame bytes))).map decodeCommand = .clr :: bytes.map .push)
end

