-- ==== Sys2Proof/Laws/Frame.lean ====
section
/-! SUPPORT. The checksum, the byte splits and the packing, each said once in arithmetic. -/

namespace Sys2Proof.Machine

/-- Eight bytes sum to at most 2040. -/
theorem byteSum_le (f : Frame) : byteSum f ≤ 2040 := by
  unfold byteSum
  have h (i : Nat) (hi : i < 10) : f[i].toNat < 256 := f[i].isLt
  have h0 := h 0 (by omega); have h1 := h 1 (by omega); have h2 := h 2 (by omega)
  have h3 := h 3 (by omega); have h4 := h 4 (by omega); have h5 := h 5 (by omega)
  have h6 := h 6 (by omega); have h7 := h 7 (by omega)
  omega

/-- The 16-bit cut removes nothing. -/
theorem cksum_toNat (f : Frame) : (cksum f).toNat = byteSum f := by
  have h := byteSum_le f
  simp only [cksum, BitVec.toNat_ofNat]
  omega

theorem lowByte_toNat (w : BitVec 16) : (lowByte w).toNat = w.toNat % 256 := by
  simp [lowByte, BitVec.extractLsb'_toNat]

theorem highByte_toNat (w : BitVec 16) : (highByte w).toNat = w.toNat / 256 := by
  have h := w.isLt
  simp only [highByte, BitVec.extractLsb'_toNat, Nat.shiftRight_eq_div_pow]
  omega

/-- The checksum field agrees exactly when it is the sum, low byte first. -/
theorem checksumAgrees_iff (f : Frame) :
    checksumAgrees f = true ↔ f[8].toNat + 256 * f[9].toNat = byteSum f := by
  have h8 := f[8].isLt
  have hs := byteSum_le f
  simp only [checksumAgrees, Bool.and_eq_true, beq_iff_eq, ← BitVec.toNat_inj, lowByte_toNat,
    highByte_toNat, cksum_toNat]
  omega

/-- The checksum reads bytes 0 to 7 only. -/
theorem cksum_congr {f g : Frame} (h : byteSum f = byteSum g) : cksum f = cksum g := by
  simp only [cksum, h]

/-- Replacing one of the eight bytes moves the sum by the difference. -/
theorem byteSum_set (f : Frame) (i : Nat) (hi : i < 8) (v : Byte) :
    byteSum (f.set i v) + f[i].toNat = byteSum f + v.toNat := by
  match i, hi with
  | 0, _ | 1, _ | 2, _ | 3, _ | 4, _ | 5, _ | 6, _ | 7, _ =>
    simp only [byteSum, Vector.getElem_set]
    simp
    omega

/-- The checksum's own bytes are not summed (R90). -/
theorem byteSum_set_checksum (f : Frame) (i : Nat) (hi : 8 ≤ i) (hi' : i < 10) (v : Byte) :
    byteSum (f.set i v) = byteSum f := by
  match i, hi, hi' with
  | 8, _, _ | 9, _, _ => simp [byteSum]

/-- A request's checksum is the sum of its four header bytes. -/
theorem byteSum_requestBytes (a c p0 p1 lo hi : Byte) :
    byteSum (requestBytes a c p0 p1 lo hi) = a.toNat + c.toNat + p0.toNat + p1.toNat := by
  simp [byteSum, requestBytes]

theorem byteSum_sealedRequest (a c p0 p1 : Byte) :
    byteSum (sealedRequest a c p0 p1) = a.toNat + c.toNat + p0.toNat + p1.toNat :=
  byteSum_requestBytes ..

theorem cksum_sealedRequest (a c p0 p1 : Byte) :
    cksum (sealedRequest a c p0 p1) = cksum (requestBytes a c p0 p1 0 0) :=
  cksum_congr (by simp only [byteSum_requestBytes, byteSum_sealedRequest])

theorem checksumAgrees_sealedRequest (a c p0 p1 : Byte) :
    checksumAgrees (sealedRequest a c p0 p1) = true := by
  have h : (sealedRequest a c p0 p1)[8] = lowByte (cksum (sealedRequest a c p0 p1)) ∧
      (sealedRequest a c p0 p1)[9] = highByte (cksum (sealedRequest a c p0 p1)) := by
    rw [cksum_sealedRequest]
    exact ⟨rfl, rfl⟩
  simp only [checksumAgrees, h.1, h.2, beq_self_eq_true, Bool.and_self]

theorem le16_toNat (b0 b1 : Byte) : (le16 b0 b1).toNat = b0.toNat + 256 * b1.toNat := by
  have h0 := b0.isLt
  have h1 := b1.isLt
  simp only [le16, BitVec.toNat_ofNat]
  omega

theorem le32_toNat (b0 b1 b2 b3 : Byte) :
    (le32 b0 b1 b2 b3).toNat
      = b0.toNat + 2 ^ 8 * b1.toNat + 2 ^ 16 * b2.toNat + 2 ^ 24 * b3.toNat := by
  have h0 := b0.isLt
  have h1 := b1.isLt
  have h2 := b2.isLt
  have h3 := b3.isLt
  simp only [le32, BitVec.toNat_ofNat]
  omega

/-- R163: the product fits its register for every exponent. -/
theorem scaledValue_toNat (raw : BitVec 16) (k : Nat) :
    (scaledValue raw k).toNat = raw.toNat * scaleMult k := by
  have h := raw.isLt
  have hm : scaleMult k ≤ 100 := by
    match k with
    | 0 => decide
    | 1 => decide
    | n + 2 => simp [scaleMult]
  have : raw.toNat * scaleMult k ≤ raw.toNat * 100 := Nat.mul_le_mul_left _ hm
  simp only [scaledValue, BitVec.toNat_ofNat]
  omega

/-! The fields of written words. -/

theorem commandWord_toNat (op : Byte) (arg : BitVec 32) :
    (commandWord op arg).toNat = 2 ^ 32 * op.toNat + arg.toNat := by
  have h0 := op.isLt
  have h1 := arg.isLt
  simp only [commandWord, BitVec.toNat_ofNat]
  omega

/-- A word of format `B` as its opcode, 24 zero bits and its byte (R82, R98). -/
theorem commandWord_formB (op b : Byte) : commandWord op (formB b) = op ++ 0x000000#24 ++ b := by
  apply BitVec.eq_of_toNat_eq
  have hb := b.isLt
  rw [commandWord_toNat, BitVec.toNat_append, BitVec.toNat_append,
    ← Nat.shiftLeft_add_eq_or_of_lt hb, ← Nat.shiftLeft_add_eq_or_of_lt (0x000000#24).isLt]
  simp only [formB, BitVec.toNat_ofNat, Nat.shiftLeft_eq]
  omega

@[simp] theorem opOf_commandWord (op : Byte) (arg : BitVec 32) : opOf (commandWord op arg) = op := by
  have h0 := op.isLt
  have h1 := arg.isLt
  apply BitVec.eq_of_toNat_eq
  simp only [opOf, BitVec.extractLsb'_toNat, commandWord_toNat, Nat.shiftRight_eq_div_pow]
  omega

@[simp] theorem argOf_commandWord (op : Byte) (arg : BitVec 32) :
    argOf (commandWord op arg) = arg := by
  have h1 := arg.isLt
  apply BitVec.eq_of_toNat_eq
  simp only [argOf, BitVec.extractLsb'_toNat, commandWord_toNat, Nat.shiftRight_eq_div_pow]
  omega

@[simp] theorem argByte_formB (b : Byte) : argByte (formB b) = b := by
  have h := b.isLt
  apply BitVec.eq_of_toNat_eq
  simp only [argByte, formB, BitVec.extractLsb'_toNat, BitVec.toNat_ofNat, Nat.shiftRight_eq_div_pow]
  omega

@[simp] theorem argAddress_formE (a c p0 p1 : Byte) : argAddress (formE a c p0 p1) = a := by
  have h := a.isLt
  apply BitVec.eq_of_toNat_eq
  simp only [argAddress, formE, BitVec.extractLsb'_toNat, le32_toNat, Nat.shiftRight_eq_div_pow]
  omega

@[simp] theorem argCommand_formE (a c p0 p1 : Byte) : argCommand (formE a c p0 p1) = c := by
  have h := a.isLt
  have h1 := c.isLt
  apply BitVec.eq_of_toNat_eq
  simp only [argCommand, formE, BitVec.extractLsb'_toNat, le32_toNat, Nat.shiftRight_eq_div_pow]
  omega

@[simp] theorem argParam0_formE (a c p0 p1 : Byte) : argParam0 (formE a c p0 p1) = p0 := by
  have h := a.isLt
  have h1 := c.isLt
  have h2 := p0.isLt
  apply BitVec.eq_of_toNat_eq
  simp only [argParam0, formE, BitVec.extractLsb'_toNat, le32_toNat, Nat.shiftRight_eq_div_pow]
  omega

@[simp] theorem argParam1_formE (a c p0 p1 : Byte) : argParam1 (formE a c p0 p1) = p1 := by
  have h := a.isLt
  have h1 := c.isLt
  have h2 := p0.isLt
  have h3 := p1.isLt
  apply BitVec.eq_of_toNat_eq
  simp only [argParam1, formE, BitVec.extractLsb'_toNat, le32_toNat, Nat.shiftRight_eq_div_pow]
  omega

/-- The packed number (R44) is below `2^80`. -/
theorem packFrame_toNat (f : Frame) :
    (packFrame f).toNat = f[0].toNat + 2 ^ 8 * f[1].toNat + 2 ^ 16 * f[2].toNat
      + 2 ^ 24 * f[3].toNat + 2 ^ 32 * f[4].toNat + 2 ^ 40 * f[5].toNat + 2 ^ 48 * f[6].toNat
      + 2 ^ 56 * f[7].toNat + 2 ^ 64 * f[8].toNat + 2 ^ 72 * f[9].toNat := by
  have h0 := f[0].isLt; have h1 := f[1].isLt; have h2 := f[2].isLt; have h3 := f[3].isLt
  have h4 := f[4].isLt; have h5 := f[5].isLt; have h6 := f[6].isLt; have h7 := f[7].isLt
  have h8 := f[8].isLt; have h9 := f[9].isLt
  simp only [packFrame, BitVec.toNat_ofNat]
  omega

/-- A packed frame's byte `i` stands in bits `8i+7:8i` (R44). -/
theorem packFrame_byte (f : Frame) (i : Nat) (hi : i < 10) :
    (packFrame f).extractLsb' (8 * i) 8 = f[i] := by
  have h0 := f[0].isLt; have h1 := f[1].isLt; have h2 := f[2].isLt; have h3 := f[3].isLt
  have h4 := f[4].isLt; have h5 := f[5].isLt; have h6 := f[6].isLt; have h7 := f[7].isLt
  have h8 := f[8].isLt; have h9 := f[9].isLt
  apply BitVec.eq_of_toNat_eq
  rw [BitVec.extractLsb'_toNat, packFrame_toNat, Nat.shiftRight_eq_div_pow]
  match i, hi with
  | 0, _ | 1, _ | 2, _ | 3, _ | 4, _ | 5, _ | 6, _ | 7, _ | 8, _ | 9, _ => omega

/-- Unpacking undoes packing. -/
@[simp] theorem unpackFrame_packFrame (f : Frame) : unpackFrame (packFrame f) = f := by
  have h := packFrame_byte f
  apply Vector.ext
  intro i hi
  match i, hi with
  | 0, _ => exact h 0 (by decide)
  | 1, _ => exact h 1 (by decide)
  | 2, _ => exact h 2 (by decide)
  | 3, _ => exact h 3 (by decide)
  | 4, _ => exact h 4 (by decide)
  | 5, _ => exact h 5 (by decide)
  | 6, _ => exact h 6 (by decide)
  | 7, _ => exact h 7 (by decide)
  | 8, _ => exact h 8 (by decide)
  | 9, _ => exact h 9 (by decide)

/-- Packing undoes unpacking. -/
@[simp] theorem packFrame_unpackFrame (w : WireFrame) : packFrame (unpackFrame w) = w := by
  have hw := w.isLt
  apply BitVec.eq_of_toNat_eq
  rw [packFrame_toNat]
  simp only [unpackFrame, Vector.getElem_mk, List.getElem_toArray, List.getElem_cons_zero,
    List.getElem_cons_succ, BitVec.extractLsb'_toNat, Nat.shiftRight_eq_div_pow]
  omega

end Sys2Proof.Machine
end

