-- ==== Sys2Proof/Laws/State.lean ====
section
/-! SUPPORT. What each update of State does to each field, one lemma each, true by unfolding. -/

namespace Sys2Proof.Machine

@[simp] theorem State.fail_eq (s : State) (c : BitVec 3) : s.fail c = s.complete c := rfl

/-! `State.clearFlags` -/

@[simp] theorem State.clearFlags_fb (s : State) : s.clearFlags.fb = s.fb := rfl
@[simp] theorem State.clearFlags_len (s : State) : s.clearFlags.len = s.len := rfl
@[simp] theorem State.clearFlags_sum (s : State) : s.clearFlags.sum = s.sum := rfl
@[simp] theorem State.clearFlags_code (s : State) : s.clearFlags.code = s.code := rfl
@[simp] theorem State.clearFlags_frameOk (s : State) : s.clearFlags.frameOk = false := rfl
@[simp] theorem State.clearFlags_dspValid (s : State) : s.clearFlags.dspValid = false := rfl
@[simp] theorem State.clearFlags_nrgValid (s : State) : s.clearFlags.nrgValid = false := rfl
@[simp] theorem State.clearFlags_raw16 (s : State) : s.clearFlags.raw16 = s.raw16 := rfl
@[simp] theorem State.clearFlags_dspParam (s : State) : s.clearFlags.dspParam = s.dspParam := rfl
@[simp] theorem State.clearFlags_dspK (s : State) : s.clearFlags.dspK = s.dspK := rfl
@[simp] theorem State.clearFlags_dspUnit (s : State) : s.clearFlags.dspUnit = s.dspUnit := rfl
@[simp] theorem State.clearFlags_scaled (s : State) : s.clearFlags.scaled = s.scaled := rfl
@[simp] theorem State.clearFlags_raw32 (s : State) : s.clearFlags.raw32 = s.raw32 := rfl
@[simp] theorem State.clearFlags_addr (s : State) : s.clearFlags.addr = s.addr := rfl
@[simp] theorem State.clearFlags_inFlight (s : State) : s.clearFlags.inFlight = s.inFlight := rfl
@[simp] theorem State.clearFlags_cmdReady (s : State) : s.clearFlags.cmdReady = s.cmdReady := rfl
@[simp] theorem State.clearFlags_rspValid (s : State) : s.clearFlags.rspValid = s.rspValid := rfl
@[simp] theorem State.clearFlags_params (s : State) : s.clearFlags.params = s.params := rfl
@[simp] theorem State.clearFlags_program (s : State) : s.clearFlags.program = s.program := rfl
@[simp] theorem State.clearFlags_index (s : State) : s.clearFlags.index = s.index := rfl
@[simp] theorem State.clearFlags_draws (s : State) : s.clearFlags.draws = s.draws := rfl

/-! `State.setVerdict` -/

@[simp] theorem State.setVerdict_fb (s : State) (ok : Bool) : (s.setVerdict ok).fb = s.fb := rfl
@[simp] theorem State.setVerdict_len (s : State) (ok : Bool) : (s.setVerdict ok).len = s.len := rfl
@[simp] theorem State.setVerdict_sum (s : State) (ok : Bool) : (s.setVerdict ok).sum = s.sum := rfl
@[simp] theorem State.setVerdict_code (s : State) (ok : Bool) :
    (s.setVerdict ok).code = s.code := rfl
@[simp] theorem State.setVerdict_frameOk (s : State) (ok : Bool) :
    (s.setVerdict ok).frameOk = ok := rfl
@[simp] theorem State.setVerdict_dspValid (s : State) (ok : Bool) :
    (s.setVerdict ok).dspValid = false := rfl
@[simp] theorem State.setVerdict_nrgValid (s : State) (ok : Bool) :
    (s.setVerdict ok).nrgValid = false := rfl
@[simp] theorem State.setVerdict_raw16 (s : State) (ok : Bool) :
    (s.setVerdict ok).raw16 = s.raw16 := rfl
@[simp] theorem State.setVerdict_dspParam (s : State) (ok : Bool) :
    (s.setVerdict ok).dspParam = s.dspParam := rfl
@[simp] theorem State.setVerdict_dspK (s : State) (ok : Bool) :
    (s.setVerdict ok).dspK = s.dspK := rfl
@[simp] theorem State.setVerdict_dspUnit (s : State) (ok : Bool) :
    (s.setVerdict ok).dspUnit = s.dspUnit := rfl
@[simp] theorem State.setVerdict_scaled (s : State) (ok : Bool) :
    (s.setVerdict ok).scaled = s.scaled := rfl
@[simp] theorem State.setVerdict_raw32 (s : State) (ok : Bool) :
    (s.setVerdict ok).raw32 = s.raw32 := rfl
@[simp] theorem State.setVerdict_addr (s : State) (ok : Bool) :
    (s.setVerdict ok).addr = s.addr := rfl
@[simp] theorem State.setVerdict_inFlight (s : State) (ok : Bool) :
    (s.setVerdict ok).inFlight = s.inFlight := rfl
@[simp] theorem State.setVerdict_cmdReady (s : State) (ok : Bool) :
    (s.setVerdict ok).cmdReady = s.cmdReady := rfl
@[simp] theorem State.setVerdict_rspValid (s : State) (ok : Bool) :
    (s.setVerdict ok).rspValid = s.rspValid := rfl
@[simp] theorem State.setVerdict_params (s : State) (ok : Bool) :
    (s.setVerdict ok).params = s.params := rfl
@[simp] theorem State.setVerdict_program (s : State) (ok : Bool) :
    (s.setVerdict ok).program = s.program := rfl
@[simp] theorem State.setVerdict_index (s : State) (ok : Bool) :
    (s.setVerdict ok).index = s.index := rfl
@[simp] theorem State.setVerdict_draws (s : State) (ok : Bool) :
    (s.setVerdict ok).draws = s.draws := rfl

/-! `State.clearDspValid` -/

@[simp] theorem State.clearDspValid_fb (s : State) : s.clearDspValid.fb = s.fb := rfl
@[simp] theorem State.clearDspValid_len (s : State) : s.clearDspValid.len = s.len := rfl
@[simp] theorem State.clearDspValid_sum (s : State) : s.clearDspValid.sum = s.sum := rfl
@[simp] theorem State.clearDspValid_code (s : State) : s.clearDspValid.code = s.code := rfl
@[simp] theorem State.clearDspValid_frameOk (s : State) : s.clearDspValid.frameOk = s.frameOk := rfl
@[simp] theorem State.clearDspValid_dspValid (s : State) : s.clearDspValid.dspValid = false := rfl
@[simp] theorem State.clearDspValid_nrgValid (s : State) :
    s.clearDspValid.nrgValid = s.nrgValid := rfl
@[simp] theorem State.clearDspValid_raw16 (s : State) : s.clearDspValid.raw16 = s.raw16 := rfl
@[simp] theorem State.clearDspValid_dspParam (s : State) :
    s.clearDspValid.dspParam = s.dspParam := rfl
@[simp] theorem State.clearDspValid_dspK (s : State) : s.clearDspValid.dspK = s.dspK := rfl
@[simp] theorem State.clearDspValid_dspUnit (s : State) : s.clearDspValid.dspUnit = s.dspUnit := rfl
@[simp] theorem State.clearDspValid_scaled (s : State) : s.clearDspValid.scaled = s.scaled := rfl
@[simp] theorem State.clearDspValid_raw32 (s : State) : s.clearDspValid.raw32 = s.raw32 := rfl
@[simp] theorem State.clearDspValid_addr (s : State) : s.clearDspValid.addr = s.addr := rfl
@[simp] theorem State.clearDspValid_inFlight (s : State) :
    s.clearDspValid.inFlight = s.inFlight := rfl
@[simp] theorem State.clearDspValid_cmdReady (s : State) :
    s.clearDspValid.cmdReady = s.cmdReady := rfl
@[simp] theorem State.clearDspValid_rspValid (s : State) :
    s.clearDspValid.rspValid = s.rspValid := rfl
@[simp] theorem State.clearDspValid_params (s : State) : s.clearDspValid.params = s.params := rfl
@[simp] theorem State.clearDspValid_program (s : State) : s.clearDspValid.program = s.program := rfl
@[simp] theorem State.clearDspValid_index (s : State) : s.clearDspValid.index = s.index := rfl
@[simp] theorem State.clearDspValid_draws (s : State) : s.clearDspValid.draws = s.draws := rfl

/-! `State.clearNrgValid` -/

@[simp] theorem State.clearNrgValid_fb (s : State) : s.clearNrgValid.fb = s.fb := rfl
@[simp] theorem State.clearNrgValid_len (s : State) : s.clearNrgValid.len = s.len := rfl
@[simp] theorem State.clearNrgValid_sum (s : State) : s.clearNrgValid.sum = s.sum := rfl
@[simp] theorem State.clearNrgValid_code (s : State) : s.clearNrgValid.code = s.code := rfl
@[simp] theorem State.clearNrgValid_frameOk (s : State) : s.clearNrgValid.frameOk = s.frameOk := rfl
@[simp] theorem State.clearNrgValid_dspValid (s : State) :
    s.clearNrgValid.dspValid = s.dspValid := rfl
@[simp] theorem State.clearNrgValid_nrgValid (s : State) : s.clearNrgValid.nrgValid = false := rfl
@[simp] theorem State.clearNrgValid_raw16 (s : State) : s.clearNrgValid.raw16 = s.raw16 := rfl
@[simp] theorem State.clearNrgValid_dspParam (s : State) :
    s.clearNrgValid.dspParam = s.dspParam := rfl
@[simp] theorem State.clearNrgValid_dspK (s : State) : s.clearNrgValid.dspK = s.dspK := rfl
@[simp] theorem State.clearNrgValid_dspUnit (s : State) : s.clearNrgValid.dspUnit = s.dspUnit := rfl
@[simp] theorem State.clearNrgValid_scaled (s : State) : s.clearNrgValid.scaled = s.scaled := rfl
@[simp] theorem State.clearNrgValid_raw32 (s : State) : s.clearNrgValid.raw32 = s.raw32 := rfl
@[simp] theorem State.clearNrgValid_addr (s : State) : s.clearNrgValid.addr = s.addr := rfl
@[simp] theorem State.clearNrgValid_inFlight (s : State) :
    s.clearNrgValid.inFlight = s.inFlight := rfl
@[simp] theorem State.clearNrgValid_cmdReady (s : State) :
    s.clearNrgValid.cmdReady = s.cmdReady := rfl
@[simp] theorem State.clearNrgValid_rspValid (s : State) :
    s.clearNrgValid.rspValid = s.rspValid := rfl
@[simp] theorem State.clearNrgValid_params (s : State) : s.clearNrgValid.params = s.params := rfl
@[simp] theorem State.clearNrgValid_program (s : State) : s.clearNrgValid.program = s.program := rfl
@[simp] theorem State.clearNrgValid_index (s : State) : s.clearNrgValid.index = s.index := rfl
@[simp] theorem State.clearNrgValid_draws (s : State) : s.clearNrgValid.draws = s.draws := rfl

/-! `State.complete` -/

@[simp] theorem State.complete_fb (s : State) (c : BitVec 3) : (s.complete c).fb = s.fb := rfl
@[simp] theorem State.complete_len (s : State) (c : BitVec 3) : (s.complete c).len = s.len := rfl
@[simp] theorem State.complete_sum (s : State) (c : BitVec 3) : (s.complete c).sum = s.sum := rfl
@[simp] theorem State.complete_code (s : State) (c : BitVec 3) : (s.complete c).code = c := rfl
@[simp] theorem State.complete_frameOk (s : State) (c : BitVec 3) :
    (s.complete c).frameOk = s.frameOk := rfl
@[simp] theorem State.complete_dspValid (s : State) (c : BitVec 3) :
    (s.complete c).dspValid = s.dspValid := rfl
@[simp] theorem State.complete_nrgValid (s : State) (c : BitVec 3) :
    (s.complete c).nrgValid = s.nrgValid := rfl
@[simp] theorem State.complete_raw16 (s : State) (c : BitVec 3) :
    (s.complete c).raw16 = s.raw16 := rfl
@[simp] theorem State.complete_dspParam (s : State) (c : BitVec 3) :
    (s.complete c).dspParam = s.dspParam := rfl
@[simp] theorem State.complete_dspK (s : State) (c : BitVec 3) : (s.complete c).dspK = s.dspK := rfl
@[simp] theorem State.complete_dspUnit (s : State) (c : BitVec 3) :
    (s.complete c).dspUnit = s.dspUnit := rfl
@[simp] theorem State.complete_scaled (s : State) (c : BitVec 3) :
    (s.complete c).scaled = s.scaled := rfl
@[simp] theorem State.complete_raw32 (s : State) (c : BitVec 3) :
    (s.complete c).raw32 = s.raw32 := rfl
@[simp] theorem State.complete_addr (s : State) (c : BitVec 3) : (s.complete c).addr = s.addr := rfl
@[simp] theorem State.complete_inFlight (s : State) (c : BitVec 3) :
    (s.complete c).inFlight = none := rfl
@[simp] theorem State.complete_cmdReady (s : State) (c : BitVec 3) :
    (s.complete c).cmdReady = true := rfl
@[simp] theorem State.complete_rspValid (s : State) (c : BitVec 3) :
    (s.complete c).rspValid = true := rfl
@[simp] theorem State.complete_params (s : State) (c : BitVec 3) :
    (s.complete c).params = s.params := rfl
@[simp] theorem State.complete_program (s : State) (c : BitVec 3) :
    (s.complete c).program = s.program := rfl
@[simp] theorem State.complete_index (s : State) (c : BitVec 3) :
    (s.complete c).index = s.index := rfl
@[simp] theorem State.complete_draws (s : State) (c : BitVec 3) :
    (s.complete c).draws = s.draws := rfl

/-! `State.emptied` -/

@[simp] theorem State.emptied_fb (s : State) : s.emptied.fb = s.fb := rfl
@[simp] theorem State.emptied_len (s : State) : s.emptied.len = 0 := rfl
@[simp] theorem State.emptied_sum (s : State) : s.emptied.sum = s.sum := rfl
@[simp] theorem State.emptied_code (s : State) : s.emptied.code = codeOk := rfl
@[simp] theorem State.emptied_frameOk (s : State) : s.emptied.frameOk = false := rfl
@[simp] theorem State.emptied_dspValid (s : State) : s.emptied.dspValid = false := rfl
@[simp] theorem State.emptied_nrgValid (s : State) : s.emptied.nrgValid = false := rfl
@[simp] theorem State.emptied_raw16 (s : State) : s.emptied.raw16 = s.raw16 := rfl
@[simp] theorem State.emptied_dspParam (s : State) : s.emptied.dspParam = s.dspParam := rfl
@[simp] theorem State.emptied_dspK (s : State) : s.emptied.dspK = s.dspK := rfl
@[simp] theorem State.emptied_dspUnit (s : State) : s.emptied.dspUnit = s.dspUnit := rfl
@[simp] theorem State.emptied_scaled (s : State) : s.emptied.scaled = s.scaled := rfl
@[simp] theorem State.emptied_raw32 (s : State) : s.emptied.raw32 = s.raw32 := rfl
@[simp] theorem State.emptied_addr (s : State) : s.emptied.addr = s.addr := rfl
@[simp] theorem State.emptied_inFlight (s : State) : s.emptied.inFlight = none := rfl
@[simp] theorem State.emptied_cmdReady (s : State) : s.emptied.cmdReady = true := rfl
@[simp] theorem State.emptied_rspValid (s : State) : s.emptied.rspValid = true := rfl
@[simp] theorem State.emptied_params (s : State) : s.emptied.params = s.params := rfl
@[simp] theorem State.emptied_program (s : State) : s.emptied.program = s.program := rfl
@[simp] theorem State.emptied_index (s : State) : s.emptied.index = s.index := rfl
@[simp] theorem State.emptied_draws (s : State) : s.emptied.draws = s.draws := rfl

/-! `State.pushed` -/

@[simp] theorem State.pushed_fb (s : State) (b : Byte) :
    (s.pushed b).fb = s.fb.setIfInBounds s.len.toNat b := rfl
@[simp] theorem State.pushed_len (s : State) (b : Byte) : (s.pushed b).len = nextLen s.len := rfl
@[simp] theorem State.pushed_sum (s : State) (b : Byte) : (s.pushed b).sum = s.sum := rfl
@[simp] theorem State.pushed_code (s : State) (b : Byte) : (s.pushed b).code = codeOk := rfl
@[simp] theorem State.pushed_frameOk (s : State) (b : Byte) : (s.pushed b).frameOk = false := rfl
@[simp] theorem State.pushed_dspValid (s : State) (b : Byte) : (s.pushed b).dspValid = false := rfl
@[simp] theorem State.pushed_nrgValid (s : State) (b : Byte) : (s.pushed b).nrgValid = false := rfl
@[simp] theorem State.pushed_raw16 (s : State) (b : Byte) : (s.pushed b).raw16 = s.raw16 := rfl
@[simp] theorem State.pushed_dspParam (s : State) (b : Byte) :
    (s.pushed b).dspParam = s.dspParam := rfl
@[simp] theorem State.pushed_dspK (s : State) (b : Byte) : (s.pushed b).dspK = s.dspK := rfl
@[simp] theorem State.pushed_dspUnit (s : State) (b : Byte) :
    (s.pushed b).dspUnit = s.dspUnit := rfl
@[simp] theorem State.pushed_scaled (s : State) (b : Byte) : (s.pushed b).scaled = s.scaled := rfl
@[simp] theorem State.pushed_raw32 (s : State) (b : Byte) : (s.pushed b).raw32 = s.raw32 := rfl
@[simp] theorem State.pushed_addr (s : State) (b : Byte) : (s.pushed b).addr = s.addr := rfl
@[simp] theorem State.pushed_inFlight (s : State) (b : Byte) : (s.pushed b).inFlight = none := rfl
@[simp] theorem State.pushed_cmdReady (s : State) (b : Byte) : (s.pushed b).cmdReady = true := rfl
@[simp] theorem State.pushed_rspValid (s : State) (b : Byte) : (s.pushed b).rspValid = true := rfl
@[simp] theorem State.pushed_params (s : State) (b : Byte) : (s.pushed b).params = s.params := rfl
@[simp] theorem State.pushed_program (s : State) (b : Byte) :
    (s.pushed b).program = s.program := rfl
@[simp] theorem State.pushed_index (s : State) (b : Byte) : (s.pushed b).index = s.index := rfl
@[simp] theorem State.pushed_draws (s : State) (b : Byte) : (s.pushed b).draws = s.draws := rfl

/-! `State.built` -/

@[simp] theorem State.built_fb (s : State) (a c p0 p1 : Byte) :
    (s.built a c p0 p1).fb = sealedRequest a c p0 p1 := rfl
@[simp] theorem State.built_len (s : State) (a c p0 p1 : Byte) :
    (s.built a c p0 p1).len = frameLen := rfl
@[simp] theorem State.built_sum (s : State) (a c p0 p1 : Byte) :
    (s.built a c p0 p1).sum = cksum (sealedRequest a c p0 p1) := rfl
@[simp] theorem State.built_code (s : State) (a c p0 p1 : Byte) :
    (s.built a c p0 p1).code = codeOk := rfl
@[simp] theorem State.built_frameOk (s : State) (a c p0 p1 : Byte) :
    (s.built a c p0 p1).frameOk = false := rfl
@[simp] theorem State.built_dspValid (s : State) (a c p0 p1 : Byte) :
    (s.built a c p0 p1).dspValid = false := rfl
@[simp] theorem State.built_nrgValid (s : State) (a c p0 p1 : Byte) :
    (s.built a c p0 p1).nrgValid = false := rfl
@[simp] theorem State.built_raw16 (s : State) (a c p0 p1 : Byte) :
    (s.built a c p0 p1).raw16 = s.raw16 := rfl
@[simp] theorem State.built_dspParam (s : State) (a c p0 p1 : Byte) :
    (s.built a c p0 p1).dspParam = s.dspParam := rfl
@[simp] theorem State.built_dspK (s : State) (a c p0 p1 : Byte) :
    (s.built a c p0 p1).dspK = s.dspK := rfl
@[simp] theorem State.built_dspUnit (s : State) (a c p0 p1 : Byte) :
    (s.built a c p0 p1).dspUnit = s.dspUnit := rfl
@[simp] theorem State.built_scaled (s : State) (a c p0 p1 : Byte) :
    (s.built a c p0 p1).scaled = s.scaled := rfl
@[simp] theorem State.built_raw32 (s : State) (a c p0 p1 : Byte) :
    (s.built a c p0 p1).raw32 = s.raw32 := rfl
@[simp] theorem State.built_addr (s : State) (a c p0 p1 : Byte) :
    (s.built a c p0 p1).addr = s.addr := rfl
@[simp] theorem State.built_inFlight (s : State) (a c p0 p1 : Byte) :
    (s.built a c p0 p1).inFlight = none := rfl
@[simp] theorem State.built_cmdReady (s : State) (a c p0 p1 : Byte) :
    (s.built a c p0 p1).cmdReady = true := rfl
@[simp] theorem State.built_rspValid (s : State) (a c p0 p1 : Byte) :
    (s.built a c p0 p1).rspValid = true := rfl
@[simp] theorem State.built_params (s : State) (a c p0 p1 : Byte) :
    (s.built a c p0 p1).params = s.params := rfl
@[simp] theorem State.built_program (s : State) (a c p0 p1 : Byte) :
    (s.built a c p0 p1).program = s.program := rfl
@[simp] theorem State.built_index (s : State) (a c p0 p1 : Byte) :
    (s.built a c p0 p1).index = s.index := rfl
@[simp] theorem State.built_draws (s : State) (a c p0 p1 : Byte) :
    (s.built a c p0 p1).draws = s.draws := rfl

/-! `State.summed` -/

@[simp] theorem State.summed_fb (s : State) : s.summed.fb = s.fb := rfl
@[simp] theorem State.summed_len (s : State) : s.summed.len = s.len := rfl
@[simp] theorem State.summed_sum (s : State) : s.summed.sum = cksum s.fb := rfl
@[simp] theorem State.summed_code (s : State) : s.summed.code = s.code := rfl
@[simp] theorem State.summed_frameOk (s : State) : s.summed.frameOk = s.frameOk := rfl
@[simp] theorem State.summed_dspValid (s : State) : s.summed.dspValid = s.dspValid := rfl
@[simp] theorem State.summed_nrgValid (s : State) : s.summed.nrgValid = s.nrgValid := rfl
@[simp] theorem State.summed_raw16 (s : State) : s.summed.raw16 = s.raw16 := rfl
@[simp] theorem State.summed_dspParam (s : State) : s.summed.dspParam = s.dspParam := rfl
@[simp] theorem State.summed_dspK (s : State) : s.summed.dspK = s.dspK := rfl
@[simp] theorem State.summed_dspUnit (s : State) : s.summed.dspUnit = s.dspUnit := rfl
@[simp] theorem State.summed_scaled (s : State) : s.summed.scaled = s.scaled := rfl
@[simp] theorem State.summed_raw32 (s : State) : s.summed.raw32 = s.raw32 := rfl
@[simp] theorem State.summed_addr (s : State) : s.summed.addr = s.addr := rfl
@[simp] theorem State.summed_inFlight (s : State) : s.summed.inFlight = s.inFlight := rfl
@[simp] theorem State.summed_cmdReady (s : State) : s.summed.cmdReady = s.cmdReady := rfl
@[simp] theorem State.summed_rspValid (s : State) : s.summed.rspValid = s.rspValid := rfl
@[simp] theorem State.summed_params (s : State) : s.summed.params = s.params := rfl
@[simp] theorem State.summed_program (s : State) : s.summed.program = s.program := rfl
@[simp] theorem State.summed_index (s : State) : s.summed.index = s.index := rfl
@[simp] theorem State.summed_draws (s : State) : s.summed.draws = s.draws := rfl

/-! `State.dspLatched` -/

@[simp] theorem State.dspLatched_fb (s : State) (c : Byte) (p : DspParameter) :
    (s.dspLatched c p).fb = s.fb := rfl
@[simp] theorem State.dspLatched_len (s : State) (c : Byte) (p : DspParameter) :
    (s.dspLatched c p).len = s.len := rfl
@[simp] theorem State.dspLatched_sum (s : State) (c : Byte) (p : DspParameter) :
    (s.dspLatched c p).sum = s.sum := rfl
@[simp] theorem State.dspLatched_code (s : State) (c : Byte) (p : DspParameter) :
    (s.dspLatched c p).code = s.code := rfl
@[simp] theorem State.dspLatched_frameOk (s : State) (c : Byte) (p : DspParameter) :
    (s.dspLatched c p).frameOk = s.frameOk := rfl
@[simp] theorem State.dspLatched_dspValid (s : State) (c : Byte) (p : DspParameter) :
    (s.dspLatched c p).dspValid = true := rfl
@[simp] theorem State.dspLatched_nrgValid (s : State) (c : Byte) (p : DspParameter) :
    (s.dspLatched c p).nrgValid = s.nrgValid := rfl
@[simp] theorem State.dspLatched_raw16 (s : State) (c : Byte) (p : DspParameter) :
    (s.dspLatched c p).raw16 = le16 s.fb[6] s.fb[7] := rfl
@[simp] theorem State.dspLatched_dspParam (s : State) (c : Byte) (p : DspParameter) :
    (s.dspLatched c p).dspParam = c := rfl
@[simp] theorem State.dspLatched_dspK (s : State) (c : Byte) (p : DspParameter) :
    (s.dspLatched c p).dspK = BitVec.ofNat 2 (dspExponent s.params p).val := rfl
@[simp] theorem State.dspLatched_dspUnit (s : State) (c : Byte) (p : DspParameter) :
    (s.dspLatched c p).dspUnit = unitCode (dspUnitOf p) := rfl
@[simp] theorem State.dspLatched_scaled (s : State) (c : Byte) (p : DspParameter) :
    (s.dspLatched c p).scaled = scaledValue (le16 s.fb[6] s.fb[7]) (dspExponent s.params p).val := rfl
@[simp] theorem State.dspLatched_raw32 (s : State) (c : Byte) (p : DspParameter) :
    (s.dspLatched c p).raw32 = s.raw32 := rfl
@[simp] theorem State.dspLatched_addr (s : State) (c : Byte) (p : DspParameter) :
    (s.dspLatched c p).addr = s.addr := rfl
@[simp] theorem State.dspLatched_inFlight (s : State) (c : Byte) (p : DspParameter) :
    (s.dspLatched c p).inFlight = s.inFlight := rfl
@[simp] theorem State.dspLatched_cmdReady (s : State) (c : Byte) (p : DspParameter) :
    (s.dspLatched c p).cmdReady = s.cmdReady := rfl
@[simp] theorem State.dspLatched_rspValid (s : State) (c : Byte) (p : DspParameter) :
    (s.dspLatched c p).rspValid = s.rspValid := rfl
@[simp] theorem State.dspLatched_params (s : State) (c : Byte) (p : DspParameter) :
    (s.dspLatched c p).params = s.params := rfl
@[simp] theorem State.dspLatched_program (s : State) (c : Byte) (p : DspParameter) :
    (s.dspLatched c p).program = s.program := rfl
@[simp] theorem State.dspLatched_index (s : State) (c : Byte) (p : DspParameter) :
    (s.dspLatched c p).index = s.index := rfl
@[simp] theorem State.dspLatched_draws (s : State) (c : Byte) (p : DspParameter) :
    (s.dspLatched c p).draws = s.draws := rfl

/-! `State.nrgLatched` -/

@[simp] theorem State.nrgLatched_fb (s : State) : s.nrgLatched.fb = s.fb := rfl
@[simp] theorem State.nrgLatched_len (s : State) : s.nrgLatched.len = s.len := rfl
@[simp] theorem State.nrgLatched_sum (s : State) : s.nrgLatched.sum = s.sum := rfl
@[simp] theorem State.nrgLatched_code (s : State) : s.nrgLatched.code = s.code := rfl
@[simp] theorem State.nrgLatched_frameOk (s : State) : s.nrgLatched.frameOk = s.frameOk := rfl
@[simp] theorem State.nrgLatched_dspValid (s : State) : s.nrgLatched.dspValid = s.dspValid := rfl
@[simp] theorem State.nrgLatched_nrgValid (s : State) : s.nrgLatched.nrgValid = true := rfl
@[simp] theorem State.nrgLatched_raw16 (s : State) : s.nrgLatched.raw16 = s.raw16 := rfl
@[simp] theorem State.nrgLatched_dspParam (s : State) : s.nrgLatched.dspParam = s.dspParam := rfl
@[simp] theorem State.nrgLatched_dspK (s : State) : s.nrgLatched.dspK = s.dspK := rfl
@[simp] theorem State.nrgLatched_dspUnit (s : State) : s.nrgLatched.dspUnit = s.dspUnit := rfl
@[simp] theorem State.nrgLatched_scaled (s : State) : s.nrgLatched.scaled = s.scaled := rfl
@[simp] theorem State.nrgLatched_raw32 (s : State) :
    s.nrgLatched.raw32 = energyWord s.params.energyOrder s.fb := rfl
@[simp] theorem State.nrgLatched_addr (s : State) : s.nrgLatched.addr = s.addr := rfl
@[simp] theorem State.nrgLatched_inFlight (s : State) : s.nrgLatched.inFlight = s.inFlight := rfl
@[simp] theorem State.nrgLatched_cmdReady (s : State) : s.nrgLatched.cmdReady = s.cmdReady := rfl
@[simp] theorem State.nrgLatched_rspValid (s : State) : s.nrgLatched.rspValid = s.rspValid := rfl
@[simp] theorem State.nrgLatched_params (s : State) : s.nrgLatched.params = s.params := rfl
@[simp] theorem State.nrgLatched_program (s : State) : s.nrgLatched.program = s.program := rfl
@[simp] theorem State.nrgLatched_index (s : State) : s.nrgLatched.index = s.index := rfl
@[simp] theorem State.nrgLatched_draws (s : State) : s.nrgLatched.draws = s.draws := rfl

/-! `State.resetLoad` -/

@[simp] theorem State.resetLoad_fb (s : State) (a : Byte) :
    (s.resetLoad a).fb = Vector.ofFn fun i => Config.drawFb s.draws i.val := rfl
@[simp] theorem State.resetLoad_len (s : State) (a : Byte) : (s.resetLoad a).len = 0 := rfl
@[simp] theorem State.resetLoad_sum (s : State) (a : Byte) :
    (s.resetLoad a).sum = Config.drawSum s.draws := rfl
@[simp] theorem State.resetLoad_code (s : State) (a : Byte) : (s.resetLoad a).code = codeNone := rfl
@[simp] theorem State.resetLoad_frameOk (s : State) (a : Byte) :
    (s.resetLoad a).frameOk = false := rfl
@[simp] theorem State.resetLoad_dspValid (s : State) (a : Byte) :
    (s.resetLoad a).dspValid = false := rfl
@[simp] theorem State.resetLoad_nrgValid (s : State) (a : Byte) :
    (s.resetLoad a).nrgValid = false := rfl
@[simp] theorem State.resetLoad_raw16 (s : State) (a : Byte) :
    (s.resetLoad a).raw16 = Config.drawRaw16 s.draws := rfl
@[simp] theorem State.resetLoad_dspParam (s : State) (a : Byte) :
    (s.resetLoad a).dspParam = Config.drawDspParam s.draws := rfl
@[simp] theorem State.resetLoad_dspK (s : State) (a : Byte) :
    (s.resetLoad a).dspK = Config.drawDspK s.draws := rfl
@[simp] theorem State.resetLoad_dspUnit (s : State) (a : Byte) :
    (s.resetLoad a).dspUnit = Config.drawDspUnit s.draws := rfl
@[simp] theorem State.resetLoad_scaled (s : State) (a : Byte) :
    (s.resetLoad a).scaled = Config.drawScaled s.draws := rfl
@[simp] theorem State.resetLoad_raw32 (s : State) (a : Byte) :
    (s.resetLoad a).raw32 = Config.drawRaw32 s.draws := rfl
@[simp] theorem State.resetLoad_addr (s : State) (a : Byte) : (s.resetLoad a).addr = a := rfl
@[simp] theorem State.resetLoad_inFlight (s : State) (a : Byte) :
    (s.resetLoad a).inFlight = none := rfl
@[simp] theorem State.resetLoad_cmdReady (s : State) (a : Byte) :
    (s.resetLoad a).cmdReady = false := rfl
@[simp] theorem State.resetLoad_rspValid (s : State) (a : Byte) :
    (s.resetLoad a).rspValid = false := rfl
@[simp] theorem State.resetLoad_params (s : State) (a : Byte) :
    (s.resetLoad a).params = s.params := rfl
@[simp] theorem State.resetLoad_program (s : State) (a : Byte) :
    (s.resetLoad a).program = s.program := rfl
@[simp] theorem State.resetLoad_index (s : State) (a : Byte) :
    (s.resetLoad a).index = s.index := rfl
@[simp] theorem State.resetLoad_draws (s : State) (a : Byte) :
    (s.resetLoad a).draws = s.draws + 1 := rfl

/-! `State.idled` -/

@[simp] theorem State.idled_fb (s : State) : s.idled.fb = s.fb := rfl
@[simp] theorem State.idled_len (s : State) : s.idled.len = s.len := rfl
@[simp] theorem State.idled_sum (s : State) : s.idled.sum = s.sum := rfl
@[simp] theorem State.idled_code (s : State) : s.idled.code = s.code := rfl
@[simp] theorem State.idled_frameOk (s : State) : s.idled.frameOk = s.frameOk := rfl
@[simp] theorem State.idled_dspValid (s : State) : s.idled.dspValid = s.dspValid := rfl
@[simp] theorem State.idled_nrgValid (s : State) : s.idled.nrgValid = s.nrgValid := rfl
@[simp] theorem State.idled_raw16 (s : State) : s.idled.raw16 = s.raw16 := rfl
@[simp] theorem State.idled_dspParam (s : State) : s.idled.dspParam = s.dspParam := rfl
@[simp] theorem State.idled_dspK (s : State) : s.idled.dspK = s.dspK := rfl
@[simp] theorem State.idled_dspUnit (s : State) : s.idled.dspUnit = s.dspUnit := rfl
@[simp] theorem State.idled_scaled (s : State) : s.idled.scaled = s.scaled := rfl
@[simp] theorem State.idled_raw32 (s : State) : s.idled.raw32 = s.raw32 := rfl
@[simp] theorem State.idled_addr (s : State) : s.idled.addr = s.addr := rfl
@[simp] theorem State.idled_inFlight (s : State) : s.idled.inFlight = s.inFlight := rfl
@[simp] theorem State.idled_cmdReady (s : State) : s.idled.cmdReady = true := rfl
@[simp] theorem State.idled_rspValid (s : State) : s.idled.rspValid = false := rfl
@[simp] theorem State.idled_params (s : State) : s.idled.params = s.params := rfl
@[simp] theorem State.idled_program (s : State) : s.idled.program = s.program := rfl
@[simp] theorem State.idled_index (s : State) : s.idled.index = s.index := rfl
@[simp] theorem State.idled_draws (s : State) : s.idled.draws = s.draws := rfl

/-! `State.accepted` -/

@[simp] theorem State.accepted_fb (s : State) (op : Byte) (arg : BitVec 32) :
    (s.accepted op arg).fb = s.fb := rfl
@[simp] theorem State.accepted_len (s : State) (op : Byte) (arg : BitVec 32) :
    (s.accepted op arg).len = s.len := rfl
@[simp] theorem State.accepted_sum (s : State) (op : Byte) (arg : BitVec 32) :
    (s.accepted op arg).sum = s.sum := rfl
@[simp] theorem State.accepted_code (s : State) (op : Byte) (arg : BitVec 32) :
    (s.accepted op arg).code = s.code := rfl
@[simp] theorem State.accepted_frameOk (s : State) (op : Byte) (arg : BitVec 32) :
    (s.accepted op arg).frameOk = s.frameOk := rfl
@[simp] theorem State.accepted_dspValid (s : State) (op : Byte) (arg : BitVec 32) :
    (s.accepted op arg).dspValid = s.dspValid := rfl
@[simp] theorem State.accepted_nrgValid (s : State) (op : Byte) (arg : BitVec 32) :
    (s.accepted op arg).nrgValid = s.nrgValid := rfl
@[simp] theorem State.accepted_raw16 (s : State) (op : Byte) (arg : BitVec 32) :
    (s.accepted op arg).raw16 = s.raw16 := rfl
@[simp] theorem State.accepted_dspParam (s : State) (op : Byte) (arg : BitVec 32) :
    (s.accepted op arg).dspParam = s.dspParam := rfl
@[simp] theorem State.accepted_dspK (s : State) (op : Byte) (arg : BitVec 32) :
    (s.accepted op arg).dspK = s.dspK := rfl
@[simp] theorem State.accepted_dspUnit (s : State) (op : Byte) (arg : BitVec 32) :
    (s.accepted op arg).dspUnit = s.dspUnit := rfl
@[simp] theorem State.accepted_scaled (s : State) (op : Byte) (arg : BitVec 32) :
    (s.accepted op arg).scaled = s.scaled := rfl
@[simp] theorem State.accepted_raw32 (s : State) (op : Byte) (arg : BitVec 32) :
    (s.accepted op arg).raw32 = s.raw32 := rfl
@[simp] theorem State.accepted_addr (s : State) (op : Byte) (arg : BitVec 32) :
    (s.accepted op arg).addr = s.addr := rfl
@[simp] theorem State.accepted_inFlight (s : State) (op : Byte) (arg : BitVec 32) :
    (s.accepted op arg).inFlight = some { op := op, arg := arg, remaining := s.params.latency } := rfl
@[simp] theorem State.accepted_cmdReady (s : State) (op : Byte) (arg : BitVec 32) :
    (s.accepted op arg).cmdReady = false := rfl
@[simp] theorem State.accepted_rspValid (s : State) (op : Byte) (arg : BitVec 32) :
    (s.accepted op arg).rspValid = false := rfl
@[simp] theorem State.accepted_params (s : State) (op : Byte) (arg : BitVec 32) :
    (s.accepted op arg).params = s.params := rfl
@[simp] theorem State.accepted_program (s : State) (op : Byte) (arg : BitVec 32) :
    (s.accepted op arg).program = s.program := rfl
@[simp] theorem State.accepted_index (s : State) (op : Byte) (arg : BitVec 32) :
    (s.accepted op arg).index = s.index := rfl
@[simp] theorem State.accepted_draws (s : State) (op : Byte) (arg : BitVec 32) :
    (s.accepted op arg).draws = s.draws := rfl

/-! `State.waiting` -/

@[simp] theorem State.waiting_fb (s : State) (q : InFlight) (n : Nat) :
    (s.waiting q n).fb = s.fb := rfl
@[simp] theorem State.waiting_len (s : State) (q : InFlight) (n : Nat) :
    (s.waiting q n).len = s.len := rfl
@[simp] theorem State.waiting_sum (s : State) (q : InFlight) (n : Nat) :
    (s.waiting q n).sum = s.sum := rfl
@[simp] theorem State.waiting_code (s : State) (q : InFlight) (n : Nat) :
    (s.waiting q n).code = s.code := rfl
@[simp] theorem State.waiting_frameOk (s : State) (q : InFlight) (n : Nat) :
    (s.waiting q n).frameOk = s.frameOk := rfl
@[simp] theorem State.waiting_dspValid (s : State) (q : InFlight) (n : Nat) :
    (s.waiting q n).dspValid = s.dspValid := rfl
@[simp] theorem State.waiting_nrgValid (s : State) (q : InFlight) (n : Nat) :
    (s.waiting q n).nrgValid = s.nrgValid := rfl
@[simp] theorem State.waiting_raw16 (s : State) (q : InFlight) (n : Nat) :
    (s.waiting q n).raw16 = s.raw16 := rfl
@[simp] theorem State.waiting_dspParam (s : State) (q : InFlight) (n : Nat) :
    (s.waiting q n).dspParam = s.dspParam := rfl
@[simp] theorem State.waiting_dspK (s : State) (q : InFlight) (n : Nat) :
    (s.waiting q n).dspK = s.dspK := rfl
@[simp] theorem State.waiting_dspUnit (s : State) (q : InFlight) (n : Nat) :
    (s.waiting q n).dspUnit = s.dspUnit := rfl
@[simp] theorem State.waiting_scaled (s : State) (q : InFlight) (n : Nat) :
    (s.waiting q n).scaled = s.scaled := rfl
@[simp] theorem State.waiting_raw32 (s : State) (q : InFlight) (n : Nat) :
    (s.waiting q n).raw32 = s.raw32 := rfl
@[simp] theorem State.waiting_addr (s : State) (q : InFlight) (n : Nat) :
    (s.waiting q n).addr = s.addr := rfl
@[simp] theorem State.waiting_inFlight (s : State) (q : InFlight) (n : Nat) :
    (s.waiting q n).inFlight = some { q with remaining := n } := rfl
@[simp] theorem State.waiting_cmdReady (s : State) (q : InFlight) (n : Nat) :
    (s.waiting q n).cmdReady = false := rfl
@[simp] theorem State.waiting_rspValid (s : State) (q : InFlight) (n : Nat) :
    (s.waiting q n).rspValid = false := rfl
@[simp] theorem State.waiting_params (s : State) (q : InFlight) (n : Nat) :
    (s.waiting q n).params = s.params := rfl
@[simp] theorem State.waiting_program (s : State) (q : InFlight) (n : Nat) :
    (s.waiting q n).program = s.program := rfl
@[simp] theorem State.waiting_index (s : State) (q : InFlight) (n : Nat) :
    (s.waiting q n).index = s.index := rfl
@[simp] theorem State.waiting_draws (s : State) (q : InFlight) (n : Nat) :
    (s.waiting q n).draws = s.draws := rfl

end Sys2Proof.Machine
end

