-- ==== Sys2Proof/Laws/Ops.lean ====
section
/-! SUPPORT. One lemma for each shared operation and each meaning that says once everything it can answer;
proofs cite these and do not unfold the definitions. -/

namespace Sys2Proof.Machine

/-- The counter after a push, as a number (R24). -/
theorem nextLen_toNat (len : BitVec 4) : (nextLen len).toNat = min (len.toNat + 1) 15 := by
  revert len
  decide

/-- One byte of the buffer after a push (R111). -/
theorem pushed_byte (s : State) (b : Byte) (i : Nat) (hi : i < 10) :
    (s.pushed b).fb[i] = if s.len.toNat = i then b else s.fb[i] := by
  rw [State.pushed_fb, Vector.getElem_setIfInBounds]

/-- The ten bytes of a frame, in order. -/
theorem frame_toList (f : Frame) :
    f.toList = [f[0], f[1], f[2], f[3], f[4], f[5], f[6], f[7], f[8], f[9]] := by
  apply List.ext_getElem
  · simp
  · intro i h1 h2
    simp only [Vector.length_toList] at h1
    match i, h1 with
    | 0, _ | 1, _ | 2, _ | 3, _ | 4, _ | 5, _ | 6, _ | 7, _ | 8, _ | 9, _ => simp

/-- Bytes written one after the other from position `k` on. -/
def writeFrom (g : Frame) (k : Nat) : List Byte → Frame
  | [] => g
  | b :: bs => writeFrom (g.setIfInBounds k b) (k + 1) bs

/-- One byte of the buffer after consecutive writes. -/
theorem writeFrom_byte (bytes : List Byte) (g : Frame) (k i : Nat) (hi : i < 10) :
    (writeFrom g k bytes)[i]
      = if h : k ≤ i ∧ i - k < bytes.length then bytes[i - k] else g[i] := by
  induction bytes generalizing g k with
  | nil => simp [writeFrom]
  | cons b bs ih =>
    rw [writeFrom, ih, Vector.getElem_setIfInBounds]
    by_cases h1 : k = i
    · subst h1
      have : ¬ (k + 1 ≤ k) := by omega
      simp
    · by_cases h2 : k < i
      · obtain ⟨d, rfl⟩ : ∃ d, i = k + 1 + d := ⟨i - (k + 1), by omega⟩
        have e1 : k + 1 + d - (k + 1) = d := by omega
        have e2 : k + 1 + d - k = d + 1 := by omega
        have e3 : k ≤ k + 1 + d := by omega
        simp [e1, e2, e3, h1]
      · have h3 : ¬ (k + 1 ≤ i) := by omega
        have h4 : ¬ (k ≤ i) := by omega
        simp [h1, h3, h4]

/-- A state just after a CLR or PUSH, with given bytes and count. -/
def State.buffered (s : State) (g : Frame) (len : BitVec 4) : State :=
  { s.emptied with fb := g, len := len }

theorem pushed_buffered (s : State) (g : Frame) (len : BitVec 4) (b : Byte) :
    (s.buffered g len).pushed b = s.buffered (g.setIfInBounds len.toNat b) (nextLen len) := rfl

/-- Pushing after a CLR writes from the current position on and counts every byte (R111). -/
theorem foldl_pushed (s : State) (bytes : List Byte) (g : Frame) (len : BitVec 4) :
    bytes.foldl State.pushed (s.buffered g len)
      = s.buffered (writeFrom g len.toNat bytes)
          (BitVec.ofNat 4 (min (len.toNat + bytes.length) 15)) := by
  induction bytes generalizing g len with
  | nil =>
    have h : BitVec.ofNat 4 (min len.toNat 15) = len := by
      revert len
      decide
    simp [writeFrom, h]
  | cons b bs ih =>
    rw [List.foldl_cons, pushed_buffered, ih, nextLen_toNat]
    have hb : writeFrom (g.setIfInBounds len.toNat b) (min (len.toNat + 1) 15) bs
        = writeFrom g len.toNat (b :: bs) := by
      by_cases h : len.toNat + 1 ≤ 15
      · rw [Nat.min_eq_left h]
        rfl
      · apply Vector.ext
        intro i hi
        have h1 : ¬ (len.toNat ≤ i) := by omega
        have h2 : ¬ (min (len.toNat + 1) 15 ≤ i) := by omega
        have h3 : ¬ (len.toNat = i) := by omega
        simp only [writeFrom_byte, Vector.getElem_setIfInBounds, h1, h2, h3, false_and,
          if_false, dif_neg, not_false_iff]
    have hl : min (min (len.toNat + 1) 15 + bs.length) 15
        = min (len.toNat + (b :: bs).length) 15 := by
      simp only [List.length_cons]
      omega
    rw [hb, hl]

/-- What FRAME leaves after any number of bytes (R99, R110, R111): the count saturates at 15, and bytes past
the tenth are dropped. -/
theorem emptied_pushes (s : State) (bytes : List Byte) :
    bytes.foldl State.pushed s.emptied
      = s.buffered (writeFrom s.fb 0 bytes) (BitVec.ofNat 4 (min bytes.length 15)) := by
  have h := foldl_pushed s bytes s.fb 0
  rw [show (0 : BitVec 4).toNat = 0 from rfl, Nat.zero_add] at h
  exact h

/-- Ten bytes written from position 0 on are the whole buffer. -/
theorem writeFrom_frame (g f : Frame) : writeFrom g 0 f.toList = f := by
  apply Vector.ext
  intro i hi
  simp [writeFrom_byte, hi]

/-- What receiving ten bytes by R99's FRAME leaves, whatever was there before. -/
theorem received_eq (s : State) (f : Frame) :
    s.received f = { s with
      fb := f, len := 10, code := codeOk, frameOk := false, dspValid := false, nrgValid := false,
      inFlight := none, cmdReady := true, rspValid := true } := by
  rw [State.received, emptied_pushes, writeFrom_frame]
  simp only [Vector.length_toList]
  rfl

/-- The bytes a request frame holds. -/
theorem requestBytes_toList (a c p0 p1 lo hi : Byte) :
    (requestBytes a c p0 p1 lo hi).toList = [a, c, p0, p1, 0, 0, 0, 0, lo, hi] := rfl

/-! What each meaning with more than one outcome answers. -/

/-- VAL on a wrong length (R113, R117). -/
theorem execVal_wrongLength (s : State) (h : s.len ≠ 10) :
    execVal s = .next (s.clearFlags.complete codeInvalidLength) :=
  if_neg h

/-- VAL on ten bytes whose checksum agrees (R113). -/
theorem execVal_agrees (s : State) (h : s.len = 10) (hc : checksumAgrees s.fb = true) :
    execVal s = .next ((s.summed.setVerdict true).complete codeOk) :=
  (if_pos h).trans (if_pos hc)

/-- VAL on ten bytes whose checksum disagrees (R113). -/
theorem execVal_mismatch (s : State) (h : s.len = 10) (hc : checksumAgrees s.fb = false) :
    execVal s = .next ((s.summed.setVerdict false).complete codeChecksumMismatch) :=
  (if_pos h).trans (if_neg (by simp [hc]))

/-- Every outcome of VAL. -/
theorem execVal_cases (s : State) :
    (s.len ≠ 10 ∧ execVal s = .next (s.clearFlags.complete codeInvalidLength)) ∨
    (s.len = 10 ∧ checksumAgrees s.fb = true ∧
      execVal s = .next ((s.summed.setVerdict true).complete codeOk)) ∨
    (s.len = 10 ∧ checksumAgrees s.fb = false ∧
      execVal s = .next ((s.summed.setVerdict false).complete codeChecksumMismatch)) := by
  by_cases h : s.len = 10
  · cases hc : checksumAgrees s.fb with
    | true => exact .inr (.inl ⟨h, rfl, execVal_agrees s h hc⟩)
    | false => exact .inr (.inr ⟨h, rfl, execVal_mismatch s h hc⟩)
  · exact .inl ⟨h, execVal_wrongLength s h⟩

/-- Every outcome of REQD. -/
theorem execReqd_cases (code : Byte) (s : State) :
    (dspParameter code = none ∧ execReqd code s = .next (s.complete codeUnknownParam)) ∨
    (∃ p, dspParameter code = some p ∧ execReqd code s = .next (s.built s.addr cmdDsp code 0)) := by
  cases h : dspParameter code with
  | none => exact .inl ⟨rfl, by simp only [execReqd, h, State.fail_eq]⟩
  | some p => exact .inr ⟨p, rfl, by simp only [execReqd, h]⟩

/-- Every outcome of REQE. -/
theorem execReqe_cases (period : Byte) (s : State) :
    (energyPeriod period = none ∧ execReqe period s = .next (s.complete codeUnknownParam)) ∨
    (∃ p, energyPeriod period = some p ∧
      execReqe period s = .next (s.built s.addr cmdEnergy period s.params.energyParam1)) := by
  cases h : energyPeriod period with
  | none => exact .inl ⟨rfl, by simp only [execReqe, h, State.fail_eq]⟩
  | some p => exact .inr ⟨p, rfl, by simp only [execReqe, h]⟩

/-- Every outcome of DECD. -/
theorem execDecd_cases (code : Byte) (s : State) :
    (s.frameOk = false ∧ execDecd code s = .next (s.clearDspValid.complete codeNoFrame)) ∨
    (s.frameOk = true ∧ dspParameter code = none ∧
      execDecd code s = .next (s.clearDspValid.complete codeUnknownParam)) ∨
    (∃ p, s.frameOk = true ∧ dspParameter code = some p ∧
      execDecd code s = .next ((s.dspLatched code p).complete codeOk)) := by
  cases hf : s.frameOk with
  | false => exact .inl ⟨rfl, by simp [execDecd, hf]⟩
  | true =>
    cases h : dspParameter code with
    | none => exact .inr (.inl ⟨rfl, rfl, by simp [execDecd, hf, h]⟩)
    | some p => exact .inr (.inr ⟨p, rfl, rfl, by simp [execDecd, hf, h]⟩)

/-- Every outcome of DECE. -/
theorem execDece_cases (s : State) :
    (s.frameOk = false ∧ execDece s = .next (s.clearNrgValid.complete codeNoFrame)) ∨
    (s.frameOk = true ∧ execDece s = .next (s.nrgLatched.complete codeOk)) := by
  cases hf : s.frameOk with
  | false => exact .inl ⟨rfl, by simp [execDece, hf]⟩
  | true => exact .inr ⟨rfl, by simp [execDece, hf]⟩

/-- Every instruction answers a next state: no error of the block stops it (R190). -/
theorem exec_answers (i : Instr) (s : State) : ∃ t, exec i s = .next t := by
  cases i with
  | val =>
    rcases execVal_cases s with ⟨_, h⟩ | ⟨_, _, h⟩ | ⟨_, _, h⟩ <;> exact ⟨_, h⟩
  | reqd code =>
    rcases execReqd_cases code s with ⟨_, h⟩ | ⟨_, _, h⟩ <;> exact ⟨_, h⟩
  | reqe period =>
    rcases execReqe_cases period s with ⟨_, h⟩ | ⟨_, _, h⟩ <;> exact ⟨_, h⟩
  | decd code =>
    rcases execDecd_cases code s with ⟨_, h⟩ | ⟨_, _, h⟩ | ⟨_, _, _, h⟩ <;> exact ⟨_, h⟩
  | dece =>
    rcases execDece_cases s with ⟨_, h⟩ | ⟨_, h⟩ <;> exact ⟨_, h⟩
  | _ => exact ⟨_, rfl⟩

/-- A run's first instruction, performed. -/
theorem runInstrs_cons {i : Instr} {is : List Instr} {s t : State} (h : exec i s = .next t) :
    runInstrs (i :: is) s = runInstrs is t := by
  simp only [runInstrs, h]

/-- A run of two parts. -/
theorem runInstrs_append (is js : List Instr) (s t : State) (h : runInstrs is s = .next t) :
    runInstrs (is ++ js) s = runInstrs js t := by
  induction is generalizing s with
  | nil =>
    cases h
    rfl
  | cons i is ih =>
    obtain ⟨u, hu⟩ := exec_answers i s
    rw [runInstrs_cons hu] at h
    rw [List.cons_append, runInstrs_cons hu, ih u h]

/-- A run of PUSHes is the fold of the push operation. -/
theorem runInstrs_pushes (bytes : List Byte) (s : State) :
    runInstrs (bytes.map .push) s = .next (bytes.foldl State.pushed s) := by
  induction bytes generalizing s with
  | nil => rfl
  | cons b bs ih => exact ih (s.pushed b)

end Sys2Proof.Machine
end

