-- ==== Sys2Proof/Laws/Exec.lean ====
section
/-! SUPPORT. The inversion of exec: everything an instruction can do, one constructor per outcome. -/

namespace Sys2Proof.Machine

/-- Every outcome of every instruction: the instruction, its guard, and the state it leaves. -/
inductive Performs (s : State) : Instr → State → Prop
  | clr : Performs s .clr s.emptied
  | push (b : Byte) : Performs s (.push b) (s.pushed b)
  | enc (a c p0 p1 : Byte) : Performs s (.enc a c p0 p1) (s.built a c p0 p1)
  | valLength (h : s.len ≠ 10) : Performs s .val (s.clearFlags.complete codeInvalidLength)
  | valAgrees (h : s.len = 10) (hc : checksumAgrees s.fb = true) :
      Performs s .val ((s.summed.setVerdict true).complete codeOk)
  | valMismatch (h : s.len = 10) (hc : checksumAgrees s.fb = false) :
      Performs s .val ((s.summed.setVerdict false).complete codeChecksumMismatch)
  | reqdUnknown (code : Byte) (h : dspParameter code = none) :
      Performs s (.reqd code) (s.complete codeUnknownParam)
  | reqdBuilt (code : Byte) (p : DspParameter) (h : dspParameter code = some p) :
      Performs s (.reqd code) (s.built s.addr cmdDsp code 0)
  | reqeUnknown (period : Byte) (h : energyPeriod period = none) :
      Performs s (.reqe period) (s.complete codeUnknownParam)
  | reqeBuilt (period : Byte) (p : EnergyPeriod) (h : energyPeriod period = some p) :
      Performs s (.reqe period) (s.built s.addr cmdEnergy period s.params.energyParam1)
  | decdNoFrame (code : Byte) (h : s.frameOk = false) :
      Performs s (.decd code) (s.clearDspValid.complete codeNoFrame)
  | decdUnknown (code : Byte) (h : s.frameOk = true) (hp : dspParameter code = none) :
      Performs s (.decd code) (s.clearDspValid.complete codeUnknownParam)
  | decdLatched (code : Byte) (p : DspParameter) (h : s.frameOk = true)
      (hp : dspParameter code = some p) :
      Performs s (.decd code) ((s.dspLatched code p).complete codeOk)
  | deceNoFrame (h : s.frameOk = false) : Performs s .dece (s.clearNrgValid.complete codeNoFrame)
  | deceLatched (h : s.frameOk = true) : Performs s .dece (s.nrgLatched.complete codeOk)
  | reserved (i : Instr) (h : i.kind = .reserved) : Performs s i (s.complete codeIllegalOp)
  | wireDsp (a code lo hi : Byte) :
      Performs s (.wireReqDsp a code lo hi) (s.received (requestBytes a cmdDsp code 0 lo hi))
  | wireEnergy (a period p1 lo hi : Byte) :
      Performs s (.wireReqEnergy a period p1 lo hi)
        (s.received (requestBytes a cmdEnergy period p1 lo hi))

/-- If exec answers a next state, one of the outcomes holds. -/
theorem performs_of_exec {i : Instr} {s t : State} (h : exec i s = .next t) : Performs s i t := by
  cases i with
  | clr => cases h; exact .clr
  | push b => cases h; exact .push b
  | enc a c p0 p1 => cases h; exact .enc a c p0 p1
  | val =>
    change execVal s = .next t at h
    rcases execVal_cases s with ⟨hl, e⟩ | ⟨hl, hc, e⟩ | ⟨hl, hc, e⟩ <;> rw [e] at h <;> cases h
    · exact .valLength hl
    · exact .valAgrees hl hc
    · exact .valMismatch hl hc
  | reqd code =>
    change execReqd code s = .next t at h
    rcases execReqd_cases code s with ⟨hp, e⟩ | ⟨p, hp, e⟩ <;> rw [e] at h <;> cases h
    · exact .reqdUnknown code hp
    · exact .reqdBuilt code p hp
  | reqe period =>
    change execReqe period s = .next t at h
    rcases execReqe_cases period s with ⟨hp, e⟩ | ⟨p, hp, e⟩ <;> rw [e] at h <;> cases h
    · exact .reqeUnknown period hp
    · exact .reqeBuilt period p hp
  | decd code =>
    change execDecd code s = .next t at h
    rcases execDecd_cases code s with ⟨hf, e⟩ | ⟨hf, hp, e⟩ | ⟨p, hf, hp, e⟩ <;> rw [e] at h <;>
      cases h
    · exact .decdNoFrame code hf
    · exact .decdUnknown code hf hp
    · exact .decdLatched code p hf hp
  | dece =>
    change execDece s = .next t at h
    rcases execDece_cases s with ⟨hf, e⟩ | ⟨hf, e⟩ <;> rw [e] at h <;> cases h
    · exact .deceNoFrame hf
    · exact .deceLatched hf
  | wireReqDsp a code lo hi =>
    have e : s.received (requestBytes a cmdDsp code 0 lo hi) = t := Host.Outcome.next.inj h
    exact e ▸ .wireDsp a code lo hi
  | wireReqEnergy a period p1 lo hi =>
    have e : s.received (requestBytes a cmdEnergy period p1 lo hi) = t := Host.Outcome.next.inj h
    exact e ▸ .wireEnergy a period p1 lo hi
  | _ => cases h; exact .reserved _ rfl

/-- A reserved opcode's only effect (R196). -/
theorem exec_of_reserved {i : Instr} (h : i.kind = .reserved) (s : State) :
    exec i s = .next (s.complete codeIllegalOp) := by
  cases i with
  | clr | push | val | enc | reqd | reqe | decd | dece | wireReqDsp | wireReqEnergy =>
    simp [Instr.kind] at h
  | _ => rfl

/-- A latched opcode and argument decode as the word they came from (R45, R81). -/
@[simp] theorem decodeCommand_commandWord (op : Byte) (arg : BitVec 32) :
    decodeCommand (commandWord op arg) = decodeOp op arg := by
  simp only [decodeCommand, opOf_commandWord, argOf_commandWord]

/-- An instruction that writes `SUM` leaves ten bytes counted and their checksum in `SUM` (R25). -/
theorem sum_of_writesSum {i : Instr} {s t : State} (h : exec i s = .next t) (hw : WritesSum i s t) :
    t.len = frameLen ∧ t.sum = cksum t.fb := by
  cases performs_of_exec h with
  | enc | reqdBuilt | reqeBuilt => exact ⟨rfl, rfl⟩
  | valAgrees hl | valMismatch hl => exact ⟨hl, rfl⟩
  | valLength hl =>
    rcases hw with ⟨_, _, _, _, hi⟩ | ⟨hk, _⟩ | ⟨_, hl'⟩
    · cases hi
    · cases hk
    · exact absurd hl' hl
  | reserved _ hk => rcases hw with ⟨_, _, _, _, rfl⟩ | ⟨hk', _⟩ | ⟨rfl, _⟩ <;> simp_all [Instr.kind]
  | _ => simp_all [WritesSum, Instr.kind, codeOk, codeUnknownParam]

end Sys2Proof.Machine
end

