-- ==== Sys2Proof/Laws/PerInstr.lean ====
section
/-! SUPPORT. For every instruction: its encoded words match its row's mask and match of
`opcode_table.json`, on the opcode byte of a command word and on the bytes of a wire frame. -/

namespace Sys2Proof.Laws.TableRow

open Sys2Proof.Machine

/-- A row's mask and match: of the opcode byte (word bits 39:32), or of the eight bytes of a wire frame that
its mask covers whole (`none` where the mask is 0). -/
inductive Row
  | command (mask pattern : Byte)
  | wire (bytes : List (Option Byte))
deriving DecidableEq, Repr

/-- The row of each constructor, from the table. -/
def rowOf : Instr → Row
  | .clr => .command 0xFF 0x01
  | .push _ => .command 0xFF 0x02
  | .val => .command 0xFF 0x03
  | .enc _ _ _ _ => .command 0xFF 0x04
  | .reqd _ => .command 0xFF 0x05
  | .reqe _ => .command 0xFF 0x06
  | .decd _ => .command 0xFF 0x07
  | .dece => .command 0xFF 0x08
  | .reserved0000 => .command 0xFF 0x00
  | .reserved0909 => .command 0xFF 0x09
  | .reserved0A0B _ => .command 0xFE 0x0A
  | .reserved0C0F _ => .command 0xFC 0x0C
  | .reserved101F _ => .command 0xF0 0x10
  | .reserved203F _ => .command 0xE0 0x20
  | .reserved407F _ => .command 0xC0 0x40
  | .reserved80FF _ => .command 0x80 0x80
  | .wireReqDsp _ _ _ _ =>
    .wire [none, some 0x3B, none, some 0, some 0, some 0, some 0, some 0, none, none]
  | .wireReqEnergy _ _ _ _ _ =>
    .wire [none, some 0x4E, none, none, some 0, some 0, some 0, some 0, none, none]

/-- Words match a row. -/
def Row.matches : Row → Encoded → Prop
  | .command mask pattern, .command w => opOf w &&& mask = pattern
  | .wire bytes, .wire f =>
    ∀ p ∈ bytes.zip (unpackFrame f).toList, ∀ b, p.1 = some b → p.2 = b
  | .command _ _, .wire _ => False
  | .wire _, .command _ => False

/-- The encoded words of `i` match its row of the table. -/
def Statement (i : Instr) : Prop := (rowOf i).matches (encode i)

theorem clr : Statement .clr := by
  simp [Statement, rowOf, Row.matches, encode]

theorem push (b : Byte) : Statement (.push b) := by
  simp [Statement, rowOf, Row.matches, encode]

theorem val : Statement .val := by
  simp [Statement, rowOf, Row.matches, encode]

theorem enc (a c p0 p1 : Byte) : Statement (.enc a c p0 p1) := by
  simp [Statement, rowOf, Row.matches, encode]

theorem reqd (code : Byte) : Statement (.reqd code) := by
  simp [Statement, rowOf, Row.matches, encode]

theorem reqe (period : Byte) : Statement (.reqe period) := by
  simp [Statement, rowOf, Row.matches, encode]

theorem decd (code : Byte) : Statement (.decd code) := by
  simp [Statement, rowOf, Row.matches, encode]

theorem dece : Statement .dece := by
  simp [Statement, rowOf, Row.matches, encode]

theorem reserved0000 : Statement .reserved0000 := by
  simp [Statement, rowOf, Row.matches, encode]

theorem reserved0909 : Statement .reserved0909 := by
  simp [Statement, rowOf, Row.matches, encode]

theorem reserved0A0B (x : BitVec 1) : Statement (.reserved0A0B x) := by
  simp only [Statement, rowOf, Row.matches, encode, opOf_commandWord]
  revert x
  decide

theorem reserved0C0F (x : BitVec 2) : Statement (.reserved0C0F x) := by
  simp only [Statement, rowOf, Row.matches, encode, opOf_commandWord]
  revert x
  decide

theorem reserved101F (x : BitVec 4) : Statement (.reserved101F x) := by
  simp only [Statement, rowOf, Row.matches, encode, opOf_commandWord]
  revert x
  decide

theorem reserved203F (x : BitVec 5) : Statement (.reserved203F x) := by
  simp only [Statement, rowOf, Row.matches, encode, opOf_commandWord]
  revert x
  decide

theorem reserved407F (x : BitVec 6) : Statement (.reserved407F x) := by
  simp only [Statement, rowOf, Row.matches, encode, opOf_commandWord]
  revert x
  decide

theorem reserved80FF (x : BitVec 7) : Statement (.reserved80FF x) := by
  simp only [Statement, rowOf, Row.matches, encode, opOf_commandWord]
  revert x
  decide

theorem wireReqDsp (address code ckLo ckHi : Byte) :
    Statement (.wireReqDsp address code ckLo ckHi) := by
  simp [Statement, rowOf, Row.matches, encode, requestBytes, cmdDsp]

theorem wireReqEnergy (address period param1 ckLo ckHi : Byte) :
    Statement (.wireReqEnergy address period param1 ckLo ckHi) := by
  simp [Statement, rowOf, Row.matches, encode, requestBytes, cmdEnergy]

end Sys2Proof.Laws.TableRow
end

