-- ==== Sys2Proof/Tests/Slice0.lean ====
section
/-! SUPPORT. The model's own tests: well-formedness, one written-out word per constructor, vectors of
`95_test_vectors.md` (their numbers are in the names), and, for every obligation with hypotheses, a state and
operands that meet them (names beginning `witness_`). -/

namespace Sys2Proof.Tests

open Sys2Proof.Machine

/-- The state an outcome answers. -/
def nextOf (o : Host.Outcome State Fault Refusal) : Option State :=
  match o with
  | .next t => some t
  | .fault _ => none
  | .refused _ => none

/-- A received frame, not yet validated. -/
def holding (f : Frame) : State := { State.reset with fb := f, len := 10, code := 1 }

/-- A frame that passed VAL. -/
def passed (f : Frame) : State := { holding f with frameOk := true, sum := cksum f }

/-- V1's frame: a DSP response with raw value 100. -/
def frameV1 : Frame := #v[0x02, 0x3B, 0, 0, 0, 0, 0x64, 0x00, 0xA1, 0x00]

/-- V2's frame: a DSP response with raw value 1000. -/
def frameV2 : Frame := #v[0x02, 0x3B, 0, 0, 0, 0, 0xE8, 0x03, 0x28, 0x01]

/-- V3's frame: the largest sum. -/
def frameV3 : Frame := #v[0xFF, 0xFF, 0xFF, 0xFF, 0xFF, 0xFF, 0xFF, 0xFF, 0xF8, 0x07]

/-- V6's frame: the checksum's high byte dropped. -/
def frameV6 : Frame := #v[0x02, 0x3B, 0, 0, 0, 0, 0xB8, 0x0B, 0x00, 0x00]

/-- An energy response with the given bytes 4 to 7 and checksum (V56 to V63). -/
def energyFrame (b4 b5 b6 b7 lo hi : Byte) : Frame := #v[0x02, 0x4E, 0, 0, b4, b5, b6, b7, lo, hi]

/-- A state whose next event is the given one. -/
def about (s : State) (e : HostEvent) : State := { s with program := [e], index := 0 }

/-! ## Well-formedness: an ill-formed term for each check -/

theorem test_wellFormed_dsp : (Instr.wireReqDsp 0x02 0x01 0x3E 0x00).wellFormed = true := by decide
theorem test_illFormed_dsp_code : (Instr.wireReqDsp 0x02 0x02 0x3F 0x00).wellFormed = false := by
  decide
theorem test_illFormed_dsp_checksum :
    (Instr.wireReqDsp 0x02 0x01 0x3E 0x01).wellFormed = false := by decide
theorem test_wellFormed_energy :
    (Instr.wireReqEnergy 0x02 0x05 0x00 0x55 0x00).wellFormed = true := by decide
theorem test_illFormed_energy_period :
    (Instr.wireReqEnergy 0x02 0x02 0x00 0x52 0x00).wellFormed = false := by decide
theorem test_illFormed_energy_checksum :
    (Instr.wireReqEnergy 0x02 0x05 0x00 0x54 0x00).wellFormed = false := by decide

/-! ## Decoding: one word per constructor, bit by bit from R81, R82, R84, R85 and R87 -/

theorem test_decode_clr :
    decodeTableWord 40 0b0000000100000000000000000000000000000000 = some .clr := by decide
theorem test_decode_push :
    decodeTableWord 40 0b0000001000000000000000000000000001100100 = some (.push 0x64) := by decide
theorem test_decode_val :
    decodeTableWord 40 0b0000001100000000000000000000000000000000 = some .val := by decide
theorem test_decode_enc :
    decodeTableWord 40 0b0000010010000000010000000010000000010000
      = some (.enc 0x10 0x20 0x40 0x80) := by decide
theorem test_decode_reqd :
    decodeTableWord 40 0b0000010100000000000000000000000000100011 = some (.reqd 35) := by decide
theorem test_decode_reqe :
    decodeTableWord 40 0b0000011010101011000000000000000000000101 = some (.reqe 5) := by decide
theorem test_decode_decd :
    decodeTableWord 40 0b0000011111111111111111111111111100000001 = some (.decd 1) := by decide
theorem test_decode_dece :
    decodeTableWord 40 0b0000100000000000000000000000000000000001 = some .dece := by decide
theorem test_decode_reserved0000 :
    decodeTableWord 40 0b0000000000000000000000000000000000000000 = some .reserved0000 := by decide
theorem test_decode_reserved0909 :
    decodeTableWord 40 0b0000100100000000000000000000000000000000 = some .reserved0909 := by decide
theorem test_decode_reserved0A0B :
    decodeTableWord 40 0b0000101100000000000000000000000000000000 = some (.reserved0A0B 0b1) := by
  decide
theorem test_decode_reserved0C0F :
    decodeTableWord 40 0b0000111000000000000000000000000000000000 = some (.reserved0C0F 0b10) := by
  decide
theorem test_decode_reserved101F :
    decodeTableWord 40 0b0001011000000000000000000000000000000000
      = some (.reserved101F 0b0110) := by decide
theorem test_decode_reserved203F :
    decodeTableWord 40 0b0011000100000000000000000000000000000000
      = some (.reserved203F 0b10001) := by decide
theorem test_decode_reserved407F :
    decodeTableWord 40 0b0110000100000000000000000000000000000000
      = some (.reserved407F 0b100001) := by decide
theorem test_decode_reserved80FF :
    decodeTableWord 40 0b1111111111111111111111111111111111111111
      = some (.reserved80FF 0b1111111) := by decide
theorem test_decode_wireReqDsp :
    decodeTableWord 80 0x003E0000000000013B02 = some (.wireReqDsp 0x02 0x01 0x3E 0x00) := by decide
theorem test_decode_wireReqEnergy :
    decodeTableWord 80 0x00510000000001004E02
      = some (.wireReqEnergy 0x02 0x00 0x01 0x51 0x00) := by decide

/-- Byte 4 of a request is 0 (R89), so an energy response is no request row. -/
theorem test_decode_response_is_no_request :
    decodeTableWord 80 0x01647856341200004E02 = none := by decide

/-! ## The vectors, one command each -/

/-- V31: CLR right after reset. -/
theorem test_V31_clr_after_reset :
    (nextOf (exec .clr State.reset)).map (fun t => (t.statusWord, t.code)) = some (0x0001, 1) := by
  decide

/-- V33: CLR on a validated frame keeps the bytes. -/
theorem test_V33_clr_keeps_bytes :
    (nextOf (exec .clr (passed frameV1))).map (fun t => (t.statusWord, t.fb))
      = some (0x0001, frameV1) := by decide

/-- V34: PUSH 0x64 at `LEN` 6. -/
theorem test_V34_push :
    (nextOf (exec (.push 0x64) { State.reset with len := 6 })).map (fun t => (t.fb[6], t.len))
      = some (0x64, 7) := by decide

/-- V36: PUSH at the saturated counter. -/
theorem test_V36_push_saturates :
    (nextOf (exec (.push 0xAA) { holding frameV1 with len := 15 })).map (fun t => (t.fb, t.len))
      = some (frameV1, 15) := by decide

/-- V3: the largest sum passes VAL. -/
theorem test_V3_val_largest_sum :
    (nextOf (exec .val (holding frameV3))).map (fun t => (t.code, t.sum, t.statusWord))
      = some (1, 0x07F8, 0x0A09) := by decide

/-- V6: a sum of 256 with its high byte dropped. -/
theorem test_V6_val_high_byte :
    (nextOf (exec .val (holding frameV6))).map (fun t => (t.code, t.sum, t.statusWord))
      = some (3, 0x0100, 0x0A03) := by decide

/-- V26: the largest sum of an ENC. -/
theorem test_V26_enc :
    (nextOf (exec (.enc 0xFF 0xFF 0xFF 0xFF) State.reset)).map (fun t => (t.fb, t.sum))
      = some (#v[0xFF, 0xFF, 0xFF, 0xFF, 0, 0, 0, 0, 0xFC, 0x03], 0x03FC) := by decide

/-- V28: byte `a` is the low byte of the argument. -/
theorem test_V28_enc_order :
    (nextOf (exec (decodeCommand 0x0480402010) State.reset)).map (fun t => (t.fb, t.statusWord))
      = some (#v[0x10, 0x20, 0x40, 0x80, 0, 0, 0, 0, 0xF0, 0x00], 0x0A01) := by decide

/-- V74: REQD PEAK_P with the device address 0xFF. -/
theorem test_V74_reqd :
    (nextOf (exec (.reqd 35) { State.reset with addr := 0xFF })).map (fun t => (t.fb, t.sum))
      = some (#v[0xFF, 0x3B, 0x23, 0, 0, 0, 0, 0, 0x5D, 0x01], 0x015D) := by decide

/-- V41, V43: REQD 24 leaves the response and its flag. -/
theorem test_V41_reqd_unknown :
    (nextOf (exec (.reqd 24) (passed frameV1))).map (fun t => (t.code, t.frameOk, t.fb))
      = some (5, true, frameV1) := by decide

/-- V40: REQE TODAY under `P_ENERGY_PARAM1` = 0x01. -/
theorem test_V40_reqe :
    (nextOf (exec (.reqe 0) { State.reset with
        params := { Params.default with energyParam1 := 0x01 } })).map (fun t => t.fb)
      = some #v[0x02, 0x4E, 0x00, 0x01, 0, 0, 0, 0, 0x51, 0x00] := by decide

/-- V42: the gap at period 2. -/
theorem test_V42_reqe_gap :
    (nextOf (exec (.reqe 2) State.reset)).map (fun t => (t.code, t.len)) = some (5, 0) := by decide

/-- V47: DC voltage 2 under `P_DCV_K` = 0. -/
theorem test_V47_decd :
    (nextOf (exec (.decd 26) { passed frameV2 with
        params := { Params.default with dcvK := 0 } })).map (fun t => (t.scaled, t.dspInfo))
      = some (100000, 0x001A) := by decide

/-- V49: a temperature of 65535 raw is unsigned. -/
theorem test_V49_decd_unsigned :
    (nextOf (exec (.decd 21)
        (passed #v[0x02, 0x3B, 0, 0, 0, 0, 0xFF, 0xFF, 0x3B, 0x02]))).map
        (fun t => (t.raw16, t.scaled, t.statusWord))
      = some (65535, 655350, 0x0A19) := by decide

/-- V57: a negative energy, `OBSERVED`. -/
theorem test_V57_dece :
    (nextOf (exec .dece (passed (energyFrame 0x80 0x01 0x02 0x03 0xD6 0x00)))).map
        (fun t => (t.raw32, t.energyWh, t.statusWord))
      = some (0x80038001, -2147254271, 0x0A29) := by decide

/-- V60: `ALTERNATE` reads byte 6. -/
theorem test_V60_dece_alternate :
    (nextOf (exec .dece { passed (energyFrame 0x00 0x10 0x27 0x00 0x87 0x00) with
        params := { Params.default with energyOrder := .alternate } })).map
        (fun t => (t.raw32, t.energyWh))
      = some (0x27000010, 654311440) := by decide

/-- V67: opcode 0x00 on the reset state. -/
theorem test_V67_reserved :
    (nextOf (exec .reserved0000 State.reset)).map (fun t => (t.code, t.statusWord))
      = some (6, 0x0006) := by decide

/-- V69: a reserved opcode leaves a decoded response. -/
theorem test_V69_reserved_keeps_flags :
    (nextOf (exec (decodeCommand 0xFFFFFFFFFF) { passed frameV1 with dspValid := true })).map
        (fun t => (t.statusWord, t.fb)) = some (0x0A1E, frameV1) := by decide

/-- The frame of REQD's example (R140), received. -/
theorem test_wireReqDsp :
    (nextOf (exec (.wireReqDsp 0x02 0x01 0x3E 0x00) State.reset)).map
        (fun t => (t.fb, t.statusWord))
      = some (#v[0x02, 0x3B, 0x01, 0, 0, 0, 0, 0, 0x3E, 0x00], 0x0A01) := by decide

/-- The frame of REQE's example (R141), received. -/
theorem test_wireReqEnergy :
    (nextOf (exec (.wireReqEnergy 0x02 0x05 0x00 0x55 0x00) State.reset)).map
        (fun t => (t.fb, t.statusWord))
      = some (#v[0x02, 0x4E, 0x05, 0, 0, 0, 0, 0, 0x55, 0x00], 0x0A01) := by decide

/-! ## The port level (the timeline of `95_test_vectors.md`, section 3), one edge each -/

/-- Input pins that present a command. -/
def presenting (op : Byte) (arg : BitVec 32) : PortIn :=
  { rst := false, cfgAddr := 0, cmdValid := true, cmdOp := op, cmdArg := arg }

/-- Input pins that present nothing. -/
def quiet : PortIn := { rst := false, cfgAddr := 0, cmdValid := false, cmdOp := 0, cmdArg := 0 }

/-- Input pins with `rst` = 1 and a device address. -/
def resetting (a : Byte) : PortIn :=
  { rst := true, cfgAddr := a, cmdValid := false, cmdOp := 0, cmdArg := 0 }

/-- A state whose PUSH 0x02 is in flight with the given edges left. -/
def busyWithPush (left : Nat) : State :=
  { State.reset with inFlight := some { op := 0x02, arg := 0x00000002, remaining := left } }

/-- Edge 0: a reset edge. -/
theorem test_edge0_reset :
    (nextOf (clockEdge (resetting 0x02) (passed frameV1))).map
        (fun t => (t.cmdReady, t.busy, t.rspValid, t.addr, t.statusWord))
      = some (false, false, false, 0x02, 0x0000) := by decide

/-- Edge 1: not accepted, because `cmd_ready` was 0. -/
theorem test_edge1_notReady :
    (nextOf (clockEdge (presenting 0x01 0) State.reset)).map
        (fun t => (t.cmdReady, t.busy, t.rspValid)) = some (true, false, false) := by decide

/-- Edge 4: PUSH 0x02 accepted. -/
theorem test_edge4_accepted :
    (nextOf (clockEdge (presenting 0x02 0x02) { State.reset with cmdReady := true })).map
        (fun t => (t.cmdReady, t.busy, t.rspValid, t.len)) = some (false, true, false, 0) := by
  decide

/-- Edge 5: PUSH 0x02 completes. -/
theorem test_edge5_completes :
    (nextOf (clockEdge quiet (busyWithPush 1))).map
        (fun t => (t.cmdReady, t.busy, t.rspValid, t.rspStatus, t.fb[0], t.len))
      = some (true, false, true, 1, 0x02, 1) := by decide

/-! ## Textual forms and the software's value -/

/-- P2's first line, with symbols and a comment. -/
theorem test_assemble_enc :
    assembleLine "        ENC 0x02, CMD_ENERGY, TOTAL, 0   ; 04_00054E02".toList
      = .ok [0x0400054E02] := by decide

/-- P6's raw word. -/
theorem test_assemble_raw :
    assembleLine ".cmd 0xFF, 0xFFFFFFFF".toList = .ok [0xFFFFFFFFFF] := by decide

/-- A CHECK of two bytes (R99). -/
theorem test_assemble_check :
    assembleLine "CHECK 0x02, 0x3B".toList
      = .ok [0x0100000000, 0x0200000002, 0x020000003B, 0x0300000000] := by decide

/-- R169's example: raw 3 at K = 1. -/
theorem test_softwareValue : softwareValue 3 1 = 0x3FD3333333333334 := by decide

/-! ## Witnesses: for each obligation with hypotheses, values that meet them, one per clause and at the
boundaries -/

/-! Encoding. -/

theorem witness_WireDecodeIsExact :
    decodeWire 0x003E0000000000013B02 = .ok (.wireReqDsp 0x02 0x01 0x3E 0x00) ∧
    decodeWire 0x00550000000000054E02 = .ok (.wireReqEnergy 0x02 0x05 0x00 0x55 0x00) := by decide

/-- Two different words each: formats N, B (V37, V54) and E. -/
theorem witness_IgnoredBitsChangeNothing :
    opOf 0x01DEADBEEF = opOf 0x0100000000 ∧
    (opOf 0x0212345664 = opOf 0x0200000064 ∧
      argByte (argOf 0x0212345664) = argByte (argOf 0x0200000064)) ∧
    (opOf 0x07FFFFFF01 = opOf 0x0700000001 ∧
      argByte (argOf 0x07FFFFFF01) = argByte (argOf 0x0700000001)) ∧
    (opOf 0x0400013B02 = 0x04 ∧ argOf 0x0400013B02 = 0x00013B02) := by decide

/-! The step. -/

/-- A command row and a wire row. -/
theorem witness_StepRunsTheDecodedInstruction :
    (State.reset.code ≠ 7 ∧ State.reset.inFlight = none) ∧
    (about State.reset (.present (.command 0x0600000002))).program[0]?
      = some (.present (.command 0x0600000002)) ∧
    decode (.command 0x0600000002) = .ok (.reqe 2) ∧
    decode (.wire 0x003E0000000000013B02) = .ok (.wireReqDsp 0x02 0x01 0x3E 0x00) := by decide

/-- The next step after withFetchWord runs the row's instruction: both widths. -/
theorem witness_FetchWordIsRunNext :
    decodeTableWord 40 0x0200000064 = some (.push 0x64) ∧
    (nextOf (step (State.reset.withFetchWord 40 0x0200000064))).map (fun t => (t.fb[0], t.index))
      = some (0x64, 1) ∧
    decodeTableWord 80 0x003E0000000000013B02 = some (.wireReqDsp 0x02 0x01 0x3E 0x00) ∧
    (nextOf (step (State.reset.withFetchWord 80 0x003E0000000000013B02))).map
      (fun t => (t.fb[8], t.len, t.index)) = some (0x3E, 10, 1) := by decide

theorem witness_StepCompletesTheAcceptedCommand :
    (busyWithPush 3).code ≠ 7 ∧
    (busyWithPush 3).inFlight = some { op := 0x02, arg := 0x02, remaining := 3 } ∧
    (nextOf (step (busyWithPush 3))).map (fun t => (t.fb[0], t.len, t.busy))
      = some (0x02, 1, false) := by decide

/-- From a state with `CODE` 7 too. -/
theorem witness_StepOfAResetEvent :
    (about { passed frameV1 with code := 7 } (.reset 0xFF)).inFlight = none ∧
    (about { passed frameV1 with code := 7 } (.reset 0xFF)).program[0]? = some (.reset 0xFF) ∧
    (nextOf (step (about { passed frameV1 with code := 7 } (.reset 0xFF)))).map
      (fun t => (t.addr, t.statusWord, t.index)) = some (0xFF, 0x0000, 1) := by decide

theorem witness_StepOfAnIdleHost :
    State.reset.code ≠ 7 ∧ State.reset.inFlight = none ∧
    State.reset.program[State.reset.index]? = none := by decide

/-- V7's energy response is no request frame. -/
theorem witness_StepReceivesAnyTenBytes :
    State.reset.code ≠ 7 ∧ State.reset.inFlight = none ∧
    (about State.reset (.present (.wire 0x01647856341200004E02))).program[0]?
      = some (.present (.wire 0x01647856341200004E02)) ∧
    decodeWire 0x01647856341200004E02 = .error .notARequestFrame := by decide

/-- The stop: an idle host, a presented word, and a reset event behind a command in flight. -/
theorem witness_StepStopsOnlyOnTheReservedCode :
    (nextOf (step { State.reset with code := 7 }) = none) ∧
    (nextOf (step (about { State.reset with code := 7 } (.present (.command 0)))) = none) ∧
    ({ busyWithPush 1 with code := 7 }.inFlight ≠ none) ∧
    (nextOf (step (about { busyWithPush 1 with code := 7 } (.reset 0x02))) = none) ∧
    (nextOf (step { State.reset with code := 6 }) ≠ none) := by decide

/-! The commands. -/

/-- A reset state, and another one that differs in every drawn register (V71). -/
theorem witness_IsResetState :
    IsResetState 0x02 State.reset ∧
    IsResetState 0x02 { State.reset with
      fb := frameV3, sum := 0xFFFF, raw16 := 7, dspParam := 0xFF, dspK := 3, dspUnit := 2,
      scaled := 0xFFFFFF, raw32 := 1 } := by
  constructor <;> constructor <;> rfl

theorem witness_ClrEmptiesTheFrame :
    opOf 0x01DEADBEEF = 0x01 ∧ ∃ t, exec .clr (passed frameV1) = .next t :=
  ⟨by decide, _, rfl⟩

/-- `LEN` at 9 (the last byte written), at 10 (dropped; V35) and at 14 (counted up to 15). -/
theorem witness_PushAppendsOneByte :
    opOf 0x0212345664 = 0x02 ∧ (holding frameV1).len = 10 ∧
    (nextOf (exec (.push 0x77) { holding frameV1 with len := 9 })).map
      (fun t => (t.fb[9], t.len)) = some (0x77, 10) ∧
    (nextOf (exec (.push 0x77) (holding frameV1))).map (fun t => (t.fb, t.len))
      = some (frameV1, 11) ∧
    (nextOf (exec (.push 0x77) { holding frameV1 with len := 14 })).map (fun t => (t.fb, t.len))
      = some (frameV1, 15) := by decide

theorem witness_EncBuildsASealedRequest :
    opOf 0x04FFFFFFFF = 0x04 ∧ ∃ t, exec (.enc 0xFF 0xFF 0xFF 0xFF) State.reset = .next t :=
  ⟨by decide, _, rfl⟩

/-- Wrong lengths 9 and 11, a checksum that agrees, and one that does not. -/
theorem witness_ValChecksLengthThenChecksum :
    opOf 0x03FFFFFFFF = 0x03 ∧
    ({ holding frameV1 with len := 9 }.len ≠ 10 ∧ { holding frameV1 with len := 11 }.len ≠ 10) ∧
    ((holding frameV3).len = 10 ∧ frameV3[8] = BitVec.ofNat 8 2040 ∧
      frameV3[9] = BitVec.ofNat 8 (2040 / 256)) ∧
    ((holding frameV6).len = 10 ∧ ¬ (frameV6[8] = BitVec.ofNat 8 256 ∧
      frameV6[9] = BitVec.ofNat 8 (256 / 256))) := by decide

/-- Codes on both sides of the catalog's edges and in its gaps (V41). -/
theorem witness_ReqdBuildsOrRefuses :
    opOf 0x0500000023 = 0x05 ∧
    (dspParameter 0 = none ∧ dspParameter 2 = none ∧ dspParameter 24 = none ∧
      dspParameter 36 = none ∧ dspParameter 255 = none) ∧
    (dspParameter 1 ≠ none ∧ dspParameter 35 ≠ none) := by decide

/-- Periods at the edges: 2, 6 and 255 outside, 0 and 5 inside (V42). -/
theorem witness_ReqeBuildsOrRefuses :
    opOf 0x06AB000005 = 0x06 ∧
    ((2 : Byte) = 2 ∧ 5 < (6 : Byte).toNat ∧ 5 < (255 : Byte).toNat) ∧
    (¬ ((0 : Byte) = 2 ∨ 5 < (0 : Byte).toNat) ∧ ¬ ((5 : Byte) = 2 ∨ 5 < (5 : Byte).toNat)) := by
  decide

theorem witness_DecdDecodesOrRefuses :
    opOf 0x07FFFFFF01 = 0x07 ∧ (holding frameV1).frameOk = false ∧
    ((passed frameV1).frameOk = true ∧ dspParameter 24 = none) ∧
    ((passed frameV1).frameOk = true ∧ dspParameter 1 = some .gridVoltage) := by decide

theorem witness_DeceReassemblesOrRefuses :
    (opOf 0x0800000001 = 0x08 ∧ (holding frameV1).frameOk = false) ∧
    ((passed frameV1).frameOk = true ∧ (passed frameV1).params.energyOrder = .observed) ∧
    { passed frameV1 with
      params := { Params.default with energyOrder := .alternate } }.params.energyOrder
        = .alternate ∧
    ∃ t, exec .dece (passed (energyFrame 0x80 0x01 0x02 0x03 0xD6 0x00)) = .next t :=
  ⟨by decide, by decide, rfl, _, rfl⟩

theorem witness_ReservedOpcodesReportIllegalOp :
    opOf 0 = 0x00 ∧ (9 ≤ (opOf 0x0900000000).toNat ∧ 9 ≤ (opOf 0xFFFFFFFFFF).toNat) ∧
    (Instr.reserved0000.kind = .reserved ∧ Instr.reserved0909.kind = .reserved ∧
      (Instr.reserved0A0B 1).kind = .reserved ∧ (Instr.reserved0C0F 3).kind = .reserved ∧
      (Instr.reserved101F 15).kind = .reserved ∧ (Instr.reserved203F 31).kind = .reserved ∧
      (Instr.reserved407F 63).kind = .reserved ∧ (Instr.reserved80FF 127).kind = .reserved) := by
  decide

theorem witness_BuiltRequestsMatchTheWireRows :
    (∃ t, exec (.reqd 35) State.reset = .next t ∧ t.code = 1) ∧
    (∃ t, exec (.reqe 5) State.reset = .next t ∧ t.code = 1) :=
  ⟨⟨_, rfl, rfl⟩, ⟨_, rfl, rfl⟩⟩

theorem witness_WellFormedWireFramesPassVal :
    ((Instr.wireReqDsp 0xFF 35 0x5D 0x01).kind = .wireFrame ∧
      (Instr.wireReqDsp 0xFF 35 0x5D 0x01).wellFormed = true) ∧
    ((Instr.wireReqEnergy 0xFF 5 0x00 0x52 0x01).kind = .wireFrame ∧
      (Instr.wireReqEnergy 0xFF 5 0x00 0x52 0x01).wellFormed = true) := by decide

/-! Laws of the checksum and the frame. -/

/-- The first and the last byte of a frame that passes (V15, V18). -/
theorem witness_SingleByteCorruptionIsDetected :
    (∃ t, exec .val (holding frameV1) = .next t ∧ t.code = 1) ∧
    (0x03 : Byte) ≠ frameV1[0] ∧ (0x08 : Byte) ≠ frameV1[9] :=
  ⟨⟨_, rfl, rfl⟩, by decide, by decide⟩

/-- Empty, nine and eleven bytes (V22, V19, V20). -/
theorem witness_WrongLengthNeverChecks :
    ([] : List Byte).length ≠ 10 ∧ (frameV1.toList.take 9).length ≠ 10 ∧
    (frameV1.toList ++ [(0x00 : Byte)]).length ≠ 10 := by decide

/-- V18: the smallest such high byte. -/
theorem witness_HighChecksumByteNeverPasses :
    8 ≤ (frameV1.set 9 0x08)[9].toNat ∧
    ∃ t, exec .val (holding (frameV1.set 9 0x08)) = .next t ∧ t.code = 3 :=
  ⟨by decide, _, rfl, rfl⟩

/-- V11 (bytes 7 and 6), V12 (a permutation), V13 (bytes 6 and 8), V17 (the swap). -/
theorem witness_UndetectedCorruptions :
    (∃ t, exec .val (holding frameV1) = .next t ∧ t.code = 1) ∧
    (frameV1[7].toNat + 1 < 256 ∧ 1 ≤ frameV1[6].toNat) ∧
    (([0x3B, 0x02, 0, 0, 0, 0, 0, 0x64] : List Byte).Perm (frameV1.toList.take 8)) ∧
    (frameV1[6].toNat + 1 < 256 ∧ frameV1[8].toNat + 1 < 256) ∧ frameV1[8] ≠ frameV1[9] :=
  ⟨⟨_, rfl, rfl⟩, by decide, by decide, by decide, by decide⟩

/-- REQD 35 and REQE 0 with their `c` and `q`. -/
theorem witness_RequestLaws :
    (∃ t, exec (.reqd 35) State.reset = .next t ∧ t.code = 1) ∧
    (∃ t, exec (.reqe 0) State.reset = .next t ∧ t.code = 1) ∧
    State.reset.params.energyParam1 = 0x00 :=
  ⟨⟨_, rfl, rfl⟩, ⟨_, rfl, rfl⟩, rfl⟩

/-- ENC and REQE before DECD and DECE (V44's case). -/
theorem witness_LateDecodeFindsNoFrame :
    ((Instr.reqe 0).kind = .request ∧ (Instr.decd 1).kind = .dspDecode ∧
      Instr.dece.kind = .energyDecode) ∧
    (∃ t, exec (.enc 0 0 0 0) (passed frameV1) = .next t ∧ t.code = 1 ∧
      ∃ u, exec .dece t = .next u) ∧
    (∃ t, exec (.reqe 0) (passed frameV1) = .next t ∧ t.code = 1 ∧
      ∃ u, exec (.decd 1) t = .next u) :=
  ⟨by decide, ⟨_, rfl, rfl, _, rfl⟩, ⟨_, rfl, rfl, _, rfl⟩⟩

/-- `LEN` 9 with two bytes and 1 with eight; one byte at `LEN` 10, 11 and 15. -/
theorem witness_ForgottenClrIsReported :
    ({ holding frameV1 with len := 9 }.len.toNat + [(0x01 : Byte), 0x02].length ≠ 10 ∧
      { holding frameV1 with len := 1 }.len.toNat + (frameV1.toList.take 8).length ≠ 10) ∧
    (10 ≤ (holding frameV1).len.toNat ∧ 10 ≤ { holding frameV1 with len := 11 }.len.toNat ∧
      10 ≤ { holding frameV1 with len := 15 }.len.toNat) ∧ [(0x02 : Byte)] ≠ [] := by decide

/-! Laws of the decoders. -/

/-- K = 0 with the largest raw value, K = 1 and K = 2. -/
theorem witness_ScaledValueIsExact :
    (∃ t, exec (.decd 3) (passed #v[0x02, 0x3B, 0, 0, 0, 0, 0xFF, 0xFF, 0x3B, 0x02]) = .next t ∧
      t.code = 1 ∧ t.scaled = 6553500) ∧
    (∃ t, exec (.decd 1) (passed frameV1) = .next t ∧ t.code = 1 ∧ t.scaled = 1000) ∧
    (∃ t, exec (.decd 25) (passed frameV2) = .next t ∧ t.code = 1 ∧ t.scaled = 1000) :=
  ⟨⟨_, rfl, rfl, by decide⟩, ⟨_, rfl, rfl, by decide⟩, ⟨_, rfl, rfl, by decide⟩⟩

/-! Rules over all instructions. -/

/-- Each error code and success, from a state that gives it: for the rules on every next state. -/
theorem witness_EachCodeHasItsCause :
    (∃ t, exec .val State.reset = .next t ∧ t.code = 2) ∧
    (∃ t, exec .val (holding frameV6) = .next t ∧ t.code = 3) ∧
    (∃ t, exec .dece (holding frameV1) = .next t ∧ t.code = 4) ∧
    (∃ t, exec (.decd 24) (holding frameV1) = .next t ∧ t.code = 4) ∧
    (∃ t, exec (.decd 24) (passed frameV1) = .next t ∧ t.code = 5) ∧
    (∃ t, exec (.reqd 24) State.reset = .next t ∧ t.code = 5) ∧
    (∃ t, exec (.reqe 2) State.reset = .next t ∧ t.code = 5) ∧
    (∃ t, exec .reserved0909 State.reset = .next t ∧ t.code = 6) ∧
    (∃ t, exec .clr State.reset = .next t ∧ t.code = 1) :=
  ⟨⟨_, rfl, rfl⟩, ⟨_, rfl, rfl⟩, ⟨_, rfl, rfl⟩, ⟨_, rfl, rfl⟩, ⟨_, rfl, rfl⟩, ⟨_, rfl, rfl⟩,
    ⟨_, rfl, rfl⟩, ⟨_, rfl, rfl⟩, ⟨_, rfl, rfl⟩⟩

theorem witness_AddressAndParametersNeverChange :
    ∃ t, exec (.reqd 35) { State.reset with addr := 0xFF } = .next t ∧ t.addr = 0xFF :=
  ⟨_, rfl, rfl⟩

/-- Set by VAL; cleared by a build; kept by a decode, a refused request and a reserved opcode. -/
theorem witness_FrameOkIsSetOnlyByVal :
    (∃ t, exec .val (holding frameV1) = .next t ∧ t.frameOk = true) ∧
    (∃ t, exec (.reqd 1) (passed frameV1) = .next t ∧ t.code = 1 ∧ t.frameOk = false) ∧
    (∃ t, exec .dece (passed frameV1) = .next t ∧ t.frameOk = true) ∧
    (∃ t, exec (.reqd 24) (passed frameV1) = .next t ∧ t.code ≠ 1 ∧ t.frameOk = true) ∧
    (∃ t, exec .reserved0000 (passed frameV1) = .next t ∧ t.frameOk = true) :=
  ⟨⟨_, rfl, rfl⟩, ⟨_, rfl, rfl, rfl⟩, ⟨_, rfl, rfl⟩, ⟨_, rfl, by decide, rfl⟩, ⟨_, rfl, rfl⟩⟩

/-- Set and cleared by DECD; cleared by VAL and a build; kept by DECE. -/
theorem witness_DspValidIsSetOnlyByDecd :
    (∃ t, exec (.decd 1) (passed frameV1) = .next t ∧ t.code = 1 ∧ t.dspValid = true) ∧
    (∃ t, exec .val { passed frameV1 with dspValid := true } = .next t ∧ t.dspValid = false) ∧
    (∃ t, exec (.reqe 0) { passed frameV1 with dspValid := true } = .next t ∧ t.code = 1 ∧
      t.dspValid = false) ∧
    (∃ t, exec .dece { passed frameV1 with dspValid := true } = .next t ∧ t.dspValid = true) :=
  ⟨⟨_, rfl, rfl, rfl⟩, ⟨_, rfl, rfl⟩, ⟨_, rfl, rfl, rfl⟩, ⟨_, rfl, rfl⟩⟩

/-- Set and cleared by DECE; cleared by PUSH; kept by DECD and a refused request. -/
theorem witness_NrgValidIsSetOnlyByDece :
    (∃ t, exec .dece (passed frameV1) = .next t ∧ t.code = 1 ∧ t.nrgValid = true) ∧
    (∃ t, exec (.push 0) { passed frameV1 with nrgValid := true } = .next t ∧
      t.nrgValid = false) ∧
    (∃ t, exec (.decd 1) { passed frameV1 with nrgValid := true } = .next t ∧
      t.nrgValid = true) ∧
    (∃ t, exec (.reqe 2) { passed frameV1 with nrgValid := true } = .next t ∧ t.code ≠ 1 ∧
      t.nrgValid = true) :=
  ⟨⟨_, rfl, rfl, rfl⟩, ⟨_, rfl, rfl⟩, ⟨_, rfl, rfl⟩, ⟨_, rfl, by decide, rfl⟩⟩

/-- `SUM` written by VAL, and kept by it on a wrong length; the results kept by a failing DECD and DECE. -/
theorem witness_ResultRegistersHaveTheirWriters :
    (∃ t, exec .val (holding frameV3) = .next t ∧ t.sum = 0x07F8) ∧
    (∃ t, exec .val { State.reset with sum := 9 } = .next t ∧ t.sum = 9) ∧
    (∃ t, exec (.decd 24) (passed frameV1) = .next t ∧ t.code ≠ 1) ∧
    (∃ t, exec .dece (holding frameV1) = .next t ∧ t.code ≠ 1) :=
  ⟨⟨_, rfl, by decide⟩, ⟨_, rfl, rfl⟩, ⟨_, rfl, by decide⟩, ⟨_, rfl, by decide⟩⟩

/-- One failing instruction of each group. -/
theorem witness_FailuresArePrecise :
    (∃ t, exec .val (holding frameV6) = .next t ∧ t.code ≠ 1) ∧
    (∃ t, exec (.decd 24) (passed frameV1) = .next t ∧ t.code ≠ 1) ∧
    (∃ t, exec .dece State.reset = .next t ∧ t.code ≠ 1) ∧
    (∃ t, exec (.reqe 6) (passed frameV1) = .next t ∧ t.code ≠ 1) ∧
    (∃ t, exec (.reserved80FF 127) (passed frameV1) = .next t ∧ t.code ≠ 1) :=
  ⟨⟨_, rfl, by decide⟩, ⟨_, rfl, by decide⟩, ⟨_, rfl, by decide⟩, ⟨_, rfl, by decide⟩,
    ⟨_, rfl, by decide⟩⟩

theorem witness_CommandsButPushAreIdempotent :
    (∀ b, Instr.val ≠ .push b) ∧ ∃ t, exec .val (holding frameV1) = .next t :=
  ⟨fun _ h => Instr.noConfusion h, _, rfl⟩

/-! Invariants. -/

/-- A response under all three flags. -/
def decoded : State :=
  { passed frameV1 with
    dspValid := true, raw16 := 100, dspParam := 1, dspK := 1, dspUnit := 0, scaled := 1000
    nrgValid := true, raw32 := 0 }

theorem witness_ArchInv : ArchInv decoded where
  sealed := by decide
  dspDecoded := by decide
  dspCatalogued := fun _ => ⟨.gridVoltage, by decide, by decide, by decide⟩
  nrgDecoded := by decide
  summed := by decide
  inRange := by decide

theorem witness_PortInv : PortInv decoded where
  latency := by decide
  busyQuiet := by decide
  edgesLeft := by
    intro p hp
    cases hp

/-- A state with a command in flight meets the port level's invariant too. -/
theorem witness_PortInv_busy : PortInv (busyWithPush 1) where
  latency := by decide
  busyQuiet := by decide
  edgesLeft := by
    intro p hp
    cases hp
    decide

theorem witness_StepKeepsTheInvariants :
    ∃ t, step (about decoded (.present (.command 0x0300000000))) = .next t :=
  ⟨_, rfl⟩

theorem witness_ClockEdgeKeepsTheInvariants :
    (∃ t, clockEdge (presenting 0x03 0) { decoded with cmdReady := true } = .next t) ∧
    (∃ t, clockEdge quiet (busyWithPush 1) = .next t) :=
  ⟨⟨_, rfl⟩, ⟨_, rfl⟩⟩

/-! The port level. -/

/-- `P_LAT` = 2: ready, and not yet ready. -/
theorem witness_PortLevelPerformsTheCommand :
    let s : State := { State.reset with params := { Params.default with latency := 2 } }
    (s.code ≠ 7 ∧ s.inFlight = none ∧ s.params.legal) ∧
    ((presenting 0x02 0x64).rst = false ∧ (presenting 0x02 0x64).cmdValid = true ∧
      (presenting 0x02 0x64).cmdOp = opOf 0x0200000064 ∧
      (presenting 0x02 0x64).cmdArg = argOf 0x0200000064) ∧
    ((∀ p ∈ [quiet, quiet], p.rst = false) ∧ [quiet, quiet].length = s.params.latency) ∧
    (s.cmdReady = false ∧ { s with cmdReady := true }.cmdReady = true) ∧
    (about s (.present (.command 0x0200000064))).program[0]?
      = some (.present (.command 0x0200000064)) := by decide

/-- One edge and two edges of three. -/
theorem witness_RegistersHoldWhileBusy :
    ((busyWithPush 3).code ≠ 7 ∧
      (busyWithPush 3).inFlight = some { op := 0x02, arg := 0x02, remaining := 3 }) ∧
    ((∀ q ∈ [quiet, presenting 0x01 0], q.rst = false) ∧ [quiet].length < 3 ∧
      [quiet, presenting 0x01 0].length < 3 ∧ [quiet] ≠ []) := by decide

/-- A completion, an edge of waiting, an acceptance and a reset edge. -/
theorem witness_HandshakeRegistersFollowTheEdge :
    (∃ t, clockEdge quiet (busyWithPush 1) = .next t ∧ t.rspValid = true) ∧
    (∃ t, clockEdge quiet (busyWithPush 2) = .next t ∧ t.rspValid = false) ∧
    (∃ t, clockEdge (presenting 0x01 0) { State.reset with cmdReady := true } = .next t ∧
      t.cmdReady = false) ∧
    (∃ t, clockEdge (resetting 0x02) (busyWithPush 1) = .next t ∧ t.rspValid = false) :=
  ⟨⟨_, rfl, rfl⟩, ⟨_, rfl, rfl⟩, ⟨_, rfl, rfl⟩, ⟨_, rfl, rfl⟩⟩

theorem witness_ResetEdgeAbandonsTheCommand :
    (resetting 0xFF).rst = true ∧ quiet.rst = false ∧ (busyWithPush 1).busy = true := by decide

/-! Headline results. -/

/-- Two reset states with different draws and the same parameters; a command from each, a built frame, and runs
that write `SUM`. -/
theorem witness_DrawsNeverReachTheHost :
    State.reset.params = { State.reset with fb := frameV3, raw16 := 7, dspK := 3 }.params ∧
    (∃ t, runInstrs [.val] State.reset = .next t) ∧
    (∃ t, runInstrs [.val] { State.reset with fb := frameV3, raw16 := 7, dspK := 3 } = .next t) ∧
    (∃ t, runInstrs [.reqd 1] State.reset = .next t ∧ 10 ≤ t.len.toNat) ∧
    SumWritten [.reqd 1] State.reset ∧ SumWritten [.enc 1 2 3 4, .val] State.reset :=
  ⟨rfl, ⟨_, rfl⟩, ⟨_, rfl⟩, ⟨_, rfl, by decide⟩, ⟨_, rfl, .inl (.inr (.inl ⟨rfl, rfl⟩))⟩,
    ⟨_, rfl, .inr ⟨_, rfl, .inl (.inr (.inr ⟨rfl, rfl⟩))⟩⟩⟩

/-- L1.4 and L1.5: V1's frame as grid voltage, V2's as DC current 1. -/
theorem witness_ReceivedDspResponseDecodes :
    (dspParameter 1 = some .gridVoltage ∧ dspParameter 25 = some .dcCurrent1) ∧
    (frameV1[8].toNat + 256 * frameV1[9].toNat = frameV1[0].toNat + frameV1[1].toNat
      + frameV1[2].toNat + frameV1[3].toNat + frameV1[4].toNat + frameV1[5].toNat
      + frameV1[6].toNat + frameV1[7].toNat) ∧
    (frameV2[8].toNat + 256 * frameV2[9].toNat = frameV2[0].toNat + frameV2[1].toNat
      + frameV2[2].toNat + frameV2[3].toNat + frameV2[4].toNat + frameV2[5].toNat
      + frameV2[6].toNat + frameV2[7].toNat) := by decide

/-- V57's response, a negative energy. -/
theorem witness_ReceivedEnergyResponseDecodes :
    let f := energyFrame 0x80 0x01 0x02 0x03 0xD6 0x00
    State.reset.params.energyOrder = .observed ∧
    f[8].toNat + 256 * f[9].toNat = f[0].toNat + f[1].toNat + f[2].toNat + f[3].toNat
      + f[4].toNat + f[5].toNat + f[6].toNat + f[7].toNat := by decide

end Sys2Proof.Tests
end

section
/-! SUPPORT. What one step and one clock edge answer, an equation per case, and that exec does not read the
handshake registers. -/

namespace Sys2Proof.Machine

/-! The guard of X8, and the host's index. -/

theorem State.unlessReserved_of_ne {s : State} (h : s.code ≠ 7)
    (o : Host.Outcome State Fault Refusal) : s.unlessReserved o = o :=
  if_neg h

theorem State.unlessReserved_of_eq {s : State} (h : s.code = 7)
    (o : Host.Outcome State Fault Refusal) : s.unlessReserved o = .fault .reservedCode :=
  if_pos h

@[simp] theorem advanceIndex_next (t : State) :
    advanceIndex (.next t) = .next { t with index := t.index + 1 } := rfl

/-! One architectural step, by what the host does next. -/

theorem step_of_inFlight {s : State} {p : InFlight} (h : s.inFlight = some p) :
    step s = s.unlessReserved (advanceIndex (completeInFlight p s)) := by
  simp only [step, transact, h]

theorem step_of_reset {s : State} {a : Byte} (h : s.inFlight = none)
    (he : s.program[s.index]? = some (.reset a)) :
    step s = .next { s.resetLoad a with index := s.index + 1 } := by
  simp only [step, transact, State.nextEvent, h, he, advanceIndex_next, State.resetLoad_index]

theorem step_of_present {s : State} {e : Encoded} (h : s.inFlight = none)
    (he : s.program[s.index]? = some (.present e)) :
    step s = s.unlessReserved (advanceIndex (perform e s)) := by
  simp only [step, transact, State.nextEvent, h, he]

theorem step_of_idle {s : State} (h : s.inFlight = none) (he : s.program[s.index]? = none) :
    step s = s.unlessReserved (.next s.idled) := by
  simp only [step, transact, State.nextEvent, h, he]

@[simp] theorem perform_command (w : CmdWord) (s : State) :
    perform (.command w) s = exec (decodeCommand w) s := rfl

theorem perform_wire_ok {w : WireFrame} {i : Instr} (h : decodeWire w = .ok i) (s : State) :
    perform (.wire w) s = exec i s := by
  simp only [perform, h]

theorem perform_wire_error {w : WireFrame} {e : DecodeError} (h : decodeWire w = .error e)
    (s : State) : perform (.wire w) s = .next (s.received (unpackFrame w)) := by
  simp only [perform, h]

/-- Presented words of any kind are performed: nothing the host presents stops the block (R190). -/
theorem perform_answers (e : Encoded) (s : State) : ∃ t, perform e s = .next t := by
  cases e with
  | command w => exact exec_answers (decodeCommand w) s
  | wire w =>
    cases hw : decodeWire w with
    | ok i => exact perform_wire_ok hw s ▸ exec_answers i s
    | error e => exact ⟨_, perform_wire_error hw s⟩

/-- A step that performs no reset event always has an answer, and only the guard of X8 can withhold it. -/
theorem step_of_no_reset {s : State}
    (h : s.inFlight ≠ none ∨ ∀ a, s.program[s.index]? ≠ some (.reset a)) :
    ∃ t, step s = s.unlessReserved (.next t) := by
  cases hf : s.inFlight with
  | some p =>
    obtain ⟨t, ht⟩ := exec_answers (decodeOp p.op p.arg) s
    exact ⟨_, by rw [step_of_inFlight hf, completeInFlight, ht, advanceIndex_next]⟩
  | none =>
    match he : s.program[s.index]? with
    | none => exact ⟨_, step_of_idle hf he⟩
    | some (.reset a) => exact absurd he (h.resolve_left (not_not_intro hf) a)
    | some (.present e) =>
      obtain ⟨t, ht⟩ := perform_answers e s
      exact ⟨_, by rw [step_of_present hf he, ht, advanceIndex_next]⟩

/-! One clock edge with `rst = 0`. -/

theorem clockEdge_waits {inp : PortIn} {s : State} {p : InFlight} {n : Nat}
    (hrst : inp.rst = false) (hcode : s.code ≠ 7) (hbusy : s.inFlight = some p)
    (hleft : p.remaining = n + 2) : clockEdge inp s = .next (s.waiting p (n + 1)) := by
  simp [clockEdge, hrst, State.unlessReserved_of_ne hcode, hbusy, hleft]

theorem clockEdge_completes {inp : PortIn} {s : State} {p : InFlight}
    (hrst : inp.rst = false) (hcode : s.code ≠ 7) (hbusy : s.inFlight = some p)
    (hleft : p.remaining = 1) : clockEdge inp s = exec (decodeOp p.op p.arg) s := by
  simp [clockEdge, hrst, State.unlessReserved_of_ne hcode, hbusy, hleft, completeInFlight]

theorem clockEdge_accepts {inp : PortIn} {s : State}
    (hrst : inp.rst = false) (hcode : s.code ≠ 7) (hidle : s.inFlight = none)
    (hvalid : inp.cmdValid = true) (hready : s.cmdReady = true) :
    clockEdge inp s = .next (s.accepted inp.cmdOp inp.cmdArg) := by
  simp [clockEdge, hrst, State.unlessReserved_of_ne hcode, hidle, hvalid, hready]

theorem clockEdge_idles {inp : PortIn} {s : State}
    (hrst : inp.rst = false) (hcode : s.code ≠ 7) (hidle : s.inFlight = none)
    (hnot : (inp.cmdValid && s.cmdReady) = false) : clockEdge inp s = .next s.idled := by
  simp [clockEdge, hrst, State.unlessReserved_of_ne hcode, hidle, hnot]

/-- A run's first edge, taken. -/
theorem clockRun_cons {inp : PortIn} {rest : List PortIn} {s t : State}
    (h : clockEdge inp s = .next t) : clockRun (inp :: rest) s = clockRun rest t := by
  simp only [clockRun, h]

/-! exec reads neither `BUSY` nor the handshake registers, and its completion overwrites them (R46). -/

theorem exec_handshake (i : Instr) (s : State) (f : Option InFlight) (ready valid : Bool) :
    exec i { s with inFlight := f, cmdReady := ready, rspValid := valid } = exec i s := by
  cases i with
  | wireReqDsp | wireReqEnergy =>
    simp only [exec, execWireReqDsp, execWireReqEnergy, received_eq]
  | _ => rfl

@[simp] theorem exec_accepted (i : Instr) (s : State) (op : Byte) (arg : BitVec 32) :
    exec i (s.accepted op arg) = exec i s :=
  exec_handshake ..

@[simp] theorem exec_waiting (i : Instr) (s : State) (p : InFlight) (n : Nat) :
    exec i (s.waiting p n) = exec i s :=
  exec_handshake ..

@[simp] theorem exec_idled (i : Instr) (s : State) : exec i s.idled = exec i s :=
  exec_handshake i s s.inFlight true false

end Sys2Proof.Machine
end

section
/-! SUPPORT. The whole life of an accepted command at the port: from any edge of it to its completion, and from
its acceptance on. -/

namespace Sys2Proof.Machine

/-- A command in flight, given exactly the edges it has left and no reset among them, is performed as from the
present state, whatever the pins show (R46). -/
theorem clockRun_of_inFlight (edges : List PortIn) (s : State) (p : InFlight)
    (hcode : s.code ≠ 7) (hbusy : s.inFlight = some p) (hrst : ∀ q ∈ edges, q.rst = false)
    (hlen : edges.length = p.remaining) (hpos : 1 ≤ p.remaining) :
    clockRun edges s = exec (decodeOp p.op p.arg) s := by
  induction edges generalizing s p with
  | nil => simp only [List.length_nil] at hlen; omega
  | cons e es ih =>
    obtain ⟨he, hes⟩ := List.forall_mem_cons.1 hrst
    cases es with
    | nil =>
      obtain ⟨t, ht⟩ := exec_answers (decodeOp p.op p.arg) s
      have hedge := clockEdge_completes he hcode hbusy hlen.symm
      rw [clockRun_cons (hedge.trans ht), ht]
      rfl
    | cons e' es' =>
      have hedge := clockEdge_waits he hcode hbusy hlen.symm
      rw [clockRun_cons hedge,
        ih (s.waiting p (es'.length + 1)) { p with remaining := es'.length + 1 } hcode rfl hes rfl
          (Nat.succ_pos _),
        exec_waiting]

/-- A command presented while `cmd_ready` is 1 is performed after its acceptance edge and `P_LAT` more (R45,
R46). -/
theorem clockRun_of_presented {s : State} {first : PortIn} {rest : List PortIn}
    (hcode : s.code ≠ 7) (hidle : s.inFlight = none) (hlat : s.params.legal)
    (hready : s.cmdReady = true) (hrst : first.rst = false) (hvalid : first.cmdValid = true)
    (hrest : ∀ q ∈ rest, q.rst = false) (hlen : rest.length = s.params.latency) :
    clockRun (first :: rest) s = exec (decodeOp first.cmdOp first.cmdArg) s := by
  rw [clockRun_cons (clockEdge_accepts hrst hcode hidle hvalid hready),
    clockRun_of_inFlight rest (s.accepted first.cmdOp first.cmdArg) _ hcode
      (State.accepted_inFlight ..) hrest hlen hlat,
    exec_accepted]

end Sys2Proof.Machine
end

section
/-! The scope's statements: the architectural step, and the port level that refines it (R5). -/

namespace Sys2Proof.Machine

/-- Settles O13: a step that performs no reset event is an answer guarded by X8, and a reset event always
answers. -/
theorem stepStopsOnlyOnTheReservedCode : Obligations.StepStopsOnlyOnTheReservedCode := by
  refine ⟨fun s hcode => ?_, fun s hcode hnoReset => ?_⟩
  · by_cases hnoReset : s.inFlight ≠ none ∨ ∀ a, s.program[s.index]? ≠ some (.reset a)
    · obtain ⟨t, ht⟩ := step_of_no_reset hnoReset
      exact ⟨t, ht.trans (State.unlessReserved_of_ne hcode _)⟩
    · push Not at hnoReset
      obtain ⟨hidle, a, he⟩ := hnoReset
      exact ⟨_, step_of_reset hidle he⟩
  · obtain ⟨t, ht⟩ := step_of_no_reset hnoReset
    exact ht.trans (State.unlessReserved_of_eq hcode _)

/-- Settles O42, over every outcome of every instruction. -/
theorem addressAndParametersNeverChange : Obligations.AddressAndParametersNeverChange := by
  intro i s t h
  cases performs_of_exec h with
  | wireDsp | wireEnergy => simp only [received_eq, and_self]
  | _ => exact ⟨rfl, rfl, rfl, rfl, rfl⟩

/-- Settles O52: `P_LAT` edges after acceptance the command is performed; where `cmd_ready` is still 0, an idle
edge comes first. -/
theorem portLevelPerformsTheCommand : Obligations.PortLevelPerformsTheCommand := by
  intro s w first rest hcode hidle hlat hrst hvalid hop harg hrest hlen
  have hdecode : decodeCommand w = decodeOp first.cmdOp first.cmdArg := by
    rw [hop, harg, decodeCommand]
  rw [hdecode]
  refine ⟨fun hready => ?_, fun hnotReady => ?_, fun he => ?_⟩
  · exact clockRun_of_presented hcode hidle hlat hready hrst hvalid hrest hlen
  · have hidled : clockEdge first s = .next s.idled :=
      clockEdge_idles hrst hcode hidle (by rw [hnotReady, Bool.and_false])
    rw [clockRun_cons hidled,
      clockRun_of_presented (s := s.idled) hcode hidle hlat rfl hrst hvalid hrest hlen, exec_idled]
  · rw [step_of_present hidle he, State.unlessReserved_of_ne hcode, perform_command, hdecode]

/-- Settles O11: the idle step is the one update `State.idled`. -/
theorem stepOfAnIdleHost : Obligations.StepOfAnIdleHost := by
  intro s hcode hidle he
  rw [step_of_idle hidle he, State.unlessReserved_of_ne hcode, State.idled]

/-- Settles O12: the ten bytes are received as CLR and ten PUSHes receive them, whatever was there before. -/
theorem stepReceivesAnyTenBytes : Obligations.StepReceivesAnyTenBytes := by
  intro s w e hcode hidle he hdecode
  rw [step_of_present hidle he, State.unlessReserved_of_ne hcode, perform_wire_error hdecode,
    received_eq, advanceIndex_next]
  rfl

end Sys2Proof.Machine
end

section
/-! SUPPORT. What every step, clock edge and instruction can answer, one constructor per outcome, and the
invariants of R40 and of the port carried along each of them. -/

namespace Sys2Proof.Machine

/-! The outcomes of one step and of one edge. -/

/-- Every next state of one architectural step: an instruction, ten bytes that are no request frame (log entry
5), a reset event, or an idle host. -/
inductive Steps (s : State) : State → Prop
  | performed (i : Instr) (t : State) (h : exec i s = .next t) :
      Steps s { t with index := t.index + 1 }
  | received (f : Frame) : Steps s { s.received f with index := (s.received f).index + 1 }
  | reset (a : Byte) : Steps s { s.resetLoad a with index := s.index + 1 }
  | idled (hidle : s.inFlight = none) : Steps s s.idled

/-- The guard of X8 lets a next state through unchanged. -/
theorem State.next_of_unlessReserved {s t : State} {o : Host.Outcome State Fault Refusal}
    (h : s.unlessReserved o = .next t) : o = .next t := by
  by_cases hcode : s.code = 7
  · rw [unlessReserved_of_eq hcode] at h
    cases h
  · rwa [unlessReserved_of_ne hcode] at h

theorem steps_of_advanced {i : Instr} {s t : State} (h : advanceIndex (exec i s) = .next t) :
    Steps s t := by
  obtain ⟨u, hu⟩ := exec_answers i s
  rw [hu] at h
  cases h
  exact .performed i u hu

/-- If step answers a next state, one of the outcomes holds. -/
theorem steps_of_step {s t : State} (h : step s = .next t) : Steps s t := by
  cases hbusy : s.inFlight with
  | some p =>
    rw [step_of_inFlight hbusy] at h
    exact steps_of_advanced (State.next_of_unlessReserved h)
  | none =>
    match he : s.program[s.index]? with
    | none =>
      rw [step_of_idle hbusy he] at h
      cases State.next_of_unlessReserved h
      exact .idled hbusy
    | some (.reset a) =>
      rw [step_of_reset hbusy he] at h
      cases h
      exact .reset a
    | some (.present (.command w)) =>
      rw [step_of_present hbusy he] at h
      exact steps_of_advanced (State.next_of_unlessReserved h)
    | some (.present (.wire w)) =>
      rw [step_of_present hbusy he] at h
      have h := State.next_of_unlessReserved h
      cases hw : decodeWire w with
      | ok i =>
        rw [perform_wire_ok hw] at h
        exact steps_of_advanced h
      | error e =>
        rw [perform_wire_error hw, advanceIndex_next] at h
        exact Host.Outcome.next.inj h ▸ .received (unpackFrame w)

/-- Every next state of one clock edge (R43, R45, R46, R221). -/
inductive Edge (inp : PortIn) (s : State) : State → Prop
  | reset (hrst : inp.rst = true) : Edge inp s (s.resetLoad inp.cfgAddr)
  | completes (hrst : inp.rst = false) (p : InFlight) (hbusy : s.inFlight = some p)
      (hleft : p.remaining ≤ 1) (t : State) (h : exec (decodeOp p.op p.arg) s = .next t) :
      Edge inp s t
  | waits (hrst : inp.rst = false) (p : InFlight) (hbusy : s.inFlight = some p) (n : Nat)
      (hleft : p.remaining = n + 2) : Edge inp s (s.waiting p (n + 1))
  | accepts (hrst : inp.rst = false) (hidle : s.inFlight = none) :
      Edge inp s (s.accepted inp.cmdOp inp.cmdArg)
  | idles (hrst : inp.rst = false) (hidle : s.inFlight = none) : Edge inp s s.idled

/-- If a clock edge answers a next state, one of the outcomes holds. -/
theorem edge_of_clockEdge {inp : PortIn} {s t : State} (h : clockEdge inp s = .next t) :
    Edge inp s t := by
  unfold clockEdge at h
  split at h
  case isTrue hrst =>
    cases h
    exact .reset hrst
  case isFalse hrst =>
    have hrst : inp.rst = false := Bool.eq_false_iff.2 hrst
    have h := State.next_of_unlessReserved h
    split at h
    · next p hbusy =>
      split at h
      · next h0 => exact .completes hrst p hbusy (by omega) t h
      · next h1 => exact .completes hrst p hbusy (by omega) t h
      · next n hn =>
        cases h
        exact .waits hrst p hbusy n hn
    · next hidle =>
      split at h <;> cases h
      · exact .accepts hrst hidle
      · exact .idles hrst hidle

/-- Every instruction ends with `BUSY` 0, `cmd_ready` 1 and `rsp_valid` 1 (R43, R46). -/
theorem exec_completes {i : Instr} {s t : State} (h : exec i s = .next t) :
    t.inFlight = none ∧ t.cmdReady = true ∧ t.rspValid = true := by
  cases performs_of_exec h with
  | wireDsp | wireEnergy => simp only [received_eq, and_self]
  | _ => exact ⟨rfl, rfl, rfl⟩

/-- Received bytes leave the flags clear and complete with `OK`. -/
theorem received_eq_complete (s : State) (f : Frame) :
    s.received f = ({ s with fb := f, len := 10 } : State).clearFlags.complete codeOk :=
  received_eq s f

/-! I1 to I5 of R40. -/

/-- No flag set and a legal `CODE`: every other clause is about a set flag. -/
theorem archInv_of_noFlags {s : State} (hframe : s.frameOk = false) (hdsp : s.dspValid = false)
    (hnrg : s.nrgValid = false) (hcode : s.code ≠ codeReserved) : ArchInv s where
  sealed h := absurd (hframe.symm.trans h) Bool.false_ne_true
  dspDecoded h := absurd (hdsp.symm.trans h) Bool.false_ne_true
  dspCatalogued h := absurd (hdsp.symm.trans h) Bool.false_ne_true
  nrgDecoded h := absurd (hnrg.symm.trans h) Bool.false_ne_true
  summed h := absurd (hframe.symm.trans h) Bool.false_ne_true
  inRange := ⟨Nat.le_of_lt_succ s.len.isLt, hcode⟩

theorem archInv_clearFlags_complete (s : State) {c : BitVec 3} (hc : c ≠ codeReserved) :
    ArchInv (s.clearFlags.complete c) :=
  archInv_of_noFlags rfl rfl rfl hc

theorem archInv_resetLoad (s : State) (a : Byte) : ArchInv (s.resetLoad a) :=
  archInv_of_noFlags rfl rfl rfl (show codeNone ≠ codeReserved by decide)

/-- The invariants speak neither of the port's registers nor of the host's index. -/
theorem archInv_portLevel {s : State} (h : ArchInv s) (f : Option InFlight) (ready valid : Bool)
    (n : Nat) :
    ArchInv { s with inFlight := f, cmdReady := ready, rspValid := valid, index := n } :=
  ⟨h.sealed, h.dspDecoded, h.dspCatalogued, h.nrgDecoded, h.summed, h.inRange⟩

theorem archInv_complete {s : State} (h : ArchInv s) {c : BitVec 3} (hc : c ≠ codeReserved) :
    ArchInv (s.complete c) :=
  ⟨h.sealed, h.dspDecoded, h.dspCatalogued, h.nrgDecoded, h.summed, h.inRange.1, hc⟩

theorem archInv_clearDspValid {s : State} (h : ArchInv s) : ArchInv s.clearDspValid :=
  ⟨h.sealed, nofun, nofun, h.nrgDecoded, h.summed, h.inRange⟩

theorem archInv_clearNrgValid {s : State} (h : ArchInv s) : ArchInv s.clearNrgValid :=
  ⟨h.sealed, h.dspDecoded, h.dspCatalogued, nofun, h.summed, h.inRange⟩

/-- A VAL that sets `FRAME_OK` found ten bytes and their checksum, and left it in `SUM` (I1, I4). -/
theorem archInv_validated {s : State} (h : ArchInv s) (hlen : s.len = 10)
    (hck : checksumAgrees s.fb = true) : ArchInv (s.summed.setVerdict true) where
  sealed _ := by
    simp only [checksumAgrees, Bool.and_eq_true, beq_iff_eq] at hck
    exact ⟨hlen, hck⟩
  dspDecoded := nofun
  dspCatalogued := nofun
  nrgDecoded := nofun
  summed _ := rfl
  inRange := h.inRange

/-- Every exponent of the catalog fits `DSP_K` (R34). -/
theorem dspExponent_toNat (params : Params) (p : DspParameter) :
    (BitVec.ofNat 2 (dspExponent params p).val).toNat = (dspExponent params p).val := by
  have h := (dspExponent params p).isLt
  rw [BitVec.toNat_ofNat]
  omega

/-- A successful DECD latches the decoded value and its catalog entry (I2, R33, R34). -/
theorem archInv_dspLatched {s : State} (h : ArchInv s) {code : Byte} {p : DspParameter}
    (hframe : s.frameOk = true) (hp : dspParameter code = some p) :
    ArchInv (s.dspLatched code p) where
  sealed := h.sealed
  dspDecoded _ := by
    refine ⟨hframe, rfl, ?_⟩
    simp only [State.dspLatched_scaled, State.dspLatched_raw16, State.dspLatched_dspK,
      dspExponent_toNat, scaledValue_toNat, scaleMult]
  dspCatalogued _ := ⟨p, hp, dspExponent_toNat s.params p, rfl⟩
  nrgDecoded := h.nrgDecoded
  summed := h.summed
  inRange := h.inRange

/-- A successful DECE latches the energy word (I3). -/
theorem archInv_nrgLatched {s : State} (h : ArchInv s) (hframe : s.frameOk = true) :
    ArchInv s.nrgLatched where
  sealed := h.sealed
  dspDecoded := h.dspDecoded
  dspCatalogued := h.dspCatalogued
  nrgDecoded _ := ⟨hframe, rfl⟩
  summed := h.summed
  inRange := h.inRange

theorem archInv_received (s : State) (f : Frame) : ArchInv (s.received f) :=
  received_eq_complete s f ▸ archInv_clearFlags_complete _ (by decide)

/-- Every instruction keeps I1 to I5. -/
theorem archInv_of_exec {i : Instr} {s t : State} (hs : ArchInv s) (h : exec i s = .next t) :
    ArchInv t := by
  cases performs_of_exec h with
  | clr | push | enc | reqdBuilt | reqeBuilt | valLength =>
    exact archInv_clearFlags_complete _ (by decide)
  | valMismatch => exact archInv_clearFlags_complete s.summed (by decide)
  | valAgrees hlen hck => exact archInv_complete (archInv_validated hs hlen hck) (by decide)
  | reqdUnknown | reqeUnknown | reserved => exact archInv_complete hs (by decide)
  | decdNoFrame | decdUnknown => exact archInv_complete (archInv_clearDspValid hs) (by decide)
  | decdLatched _ _ hf hp => exact archInv_complete (archInv_dspLatched hs hf hp) (by decide)
  | deceNoFrame => exact archInv_complete (archInv_clearNrgValid hs) (by decide)
  | deceLatched hf => exact archInv_complete (archInv_nrgLatched hs hf) (by decide)
  | wireDsp | wireEnergy => exact archInv_received s _

/-! The port level's invariant. -/

/-- With no command in flight only `P_LAT` matters. -/
theorem portInv_of_atRest {s : State} (hlat : s.params.legal) (hidle : s.inFlight = none) :
    PortInv s where
  latency := hlat
  busyQuiet h := absurd hidle h
  edgesLeft _ hp := absurd (hidle.symm.trans hp) nofun

theorem portInv_of_exec {i : Instr} {s t : State} (hs : PortInv s) (h : exec i s = .next t) :
    PortInv t := by
  obtain ⟨-, hparams, -⟩ := addressAndParametersNeverChange i s t h
  exact portInv_of_atRest (hparams ▸ hs.latency) (exec_completes h).1

theorem portInv_accepted {s : State} (hs : PortInv s) (op : Byte) (arg : BitVec 32) :
    PortInv (s.accepted op arg) where
  latency := hs.latency
  busyQuiet _ := ⟨rfl, rfl⟩
  edgesLeft p hp := by
    cases hp
    exact ⟨hs.latency, Nat.le_refl _⟩

theorem portInv_waiting {s : State} (hs : PortInv s) {p : InFlight} (hbusy : s.inFlight = some p)
    {n : Nat} (hleft : p.remaining = n + 2) : PortInv (s.waiting p (n + 1)) where
  latency := hs.latency
  busyQuiet _ := ⟨rfl, rfl⟩
  edgesLeft q hq := by
    cases hq
    have hmax := (hs.edgesLeft p hbusy).2
    exact ⟨Nat.succ_pos n, show n + 1 ≤ s.params.latency by omega⟩

end Sys2Proof.Machine
end

section
/-! The invariants' statements, at both levels of R5. -/

namespace Sys2Proof.Machine

/-- Settles O50, by the outcomes of a step. -/
theorem stepKeepsTheInvariants : Obligations.StepKeepsTheInvariants := by
  intro s t harch hport h
  cases steps_of_step h with
  | performed i u hu =>
    have hu' := portInv_of_exec hport hu
    exact ⟨archInv_portLevel (archInv_of_exec harch hu) ..,
      portInv_of_atRest hu'.latency (exec_completes hu).1⟩
  | received f =>
    refine ⟨archInv_portLevel (archInv_received s f) .., ?_⟩
    rw [received_eq]
    exact portInv_of_atRest hport.latency rfl
  | reset a =>
    exact ⟨archInv_portLevel (archInv_resetLoad s a) .., portInv_of_atRest hport.latency rfl⟩
  | idled hidle =>
    exact ⟨archInv_portLevel harch .., portInv_of_atRest hport.latency hidle⟩

/-- Settles O51, by the outcomes of an edge. -/
theorem clockEdgeKeepsTheInvariants : Obligations.ClockEdgeKeepsTheInvariants := by
  intro inp s t harch hport h
  cases edge_of_clockEdge h with
  | reset => exact ⟨archInv_resetLoad s _, portInv_of_atRest hport.latency rfl⟩
  | completes _ _ _ _ _ h => exact ⟨archInv_of_exec harch h, portInv_of_exec hport h⟩
  | waits _ _ hbusy _ hleft =>
    exact ⟨archInv_portLevel harch .., portInv_waiting hport hbusy hleft⟩
  | accepts => exact ⟨archInv_portLevel harch .., portInv_accepted hport ..⟩
  | idles _ hidle => exact ⟨archInv_portLevel harch .., portInv_of_atRest hport.latency hidle⟩

/-- Settles O49: no flag is set at reset and no command is in flight. -/
theorem resetMeetsTheInvariants : Obligations.ResetMeetsTheInvariants :=
  ⟨archInv_of_noFlags rfl rfl rfl (by decide), portInv_of_atRest (Nat.le_refl 1) rfl,
    ⟨rfl, rfl, rfl, rfl, rfl, rfl, rfl, rfl, rfl⟩⟩

end Sys2Proof.Machine
end

section
/-! SUPPORT. The fields of the packed words, the wire rows of built requests, and the bytes that
runs of PUSHes leave. -/

namespace Sys2Proof.Machine

/-! Fields of the status words (R31, R37). -/

theorem statusWord_toNat (s : State) :
    s.statusWord.toNat = s.code.toNat + 2 ^ 3 * s.frameOk.toNat + 2 ^ 4 * s.dspValid.toNat
      + 2 ^ 5 * s.nrgValid.toNat + 2 ^ 6 * s.busy.toNat + 2 ^ 8 * s.len.toNat := by
  have hc := s.code.isLt
  have hl := s.len.isLt
  have h1 := s.frameOk.toNat_lt
  have h2 := s.dspValid.toNat_lt
  have h3 := s.nrgValid.toNat_lt
  have h4 := s.busy.toNat_lt
  simp only [State.statusWord, BitVec.toNat_ofNat]
  omega

theorem dspInfo_toNat (s : State) :
    s.dspInfo.toNat = s.dspParam.toNat + 2 ^ 8 * s.dspK.toNat + 2 ^ 10 * s.dspUnit.toNat := by
  have hp := s.dspParam.isLt
  have hk := s.dspK.isLt
  have hu := s.dspUnit.isLt
  simp only [State.dspInfo, BitVec.toNat_ofNat]
  omega

/-- A field of a word, found by division. -/
theorem extractLsb'_eq_of_div {n w start : Nat} {x : BitVec n} {v : BitVec w}
    (h : x.toNat / 2 ^ start % 2 ^ w = v.toNat) : x.extractLsb' start w = v := by
  apply BitVec.eq_of_toNat_eq
  rw [BitVec.extractLsb'_toNat, Nat.shiftRight_eq_div_pow, h]

/-- Sixteen bits of the wide port are two neighbouring bytes, the low one first (R10, R44). -/
theorem extractLsb'_sixteen (w : WireFrame) (k : Nat) :
    w.extractLsb' k 16 = le16 (w.extractLsb' k 8) (w.extractLsb' (k + 8) 8) := by
  apply extractLsb'_eq_of_div
  rw [le16_toNat, BitVec.extractLsb'_toNat, BitVec.extractLsb'_toNat, Nat.shiftRight_add,
    Nat.shiftRight_eq_div_pow, Nat.shiftRight_eq_div_pow]
  omega

/-- One bit of a word, found by division. -/
theorem getLsbD_eq_of_div {n i : Nat} {x : BitVec n} {b : Bool}
    (h : x.toNat / 2 ^ i % 2 = b.toNat) : x.getLsbD i = b := by
  rw [BitVec.getLsbD, Nat.testBit_eq_decide_div_mod_eq, h]
  cases b <;> rfl

theorem statusWord_code (s : State) : s.statusWord.extractLsb' 0 3 = s.code := by
  have hc := s.code.isLt
  apply extractLsb'_eq_of_div
  rw [statusWord_toNat]
  omega

/-- The zeros of a built request match the rows' masks, so it decodes from the wide port (R87). -/
theorem decodeWire_dspRequest (a code lo hi : Byte) :
    decodeWire (packFrame (requestBytes a cmdDsp code 0 lo hi))
      = .ok (.wireReqDsp a code lo hi) := by
  rw [decodeWire, unpackFrame_packFrame]
  exact (if_pos ⟨rfl, rfl, rfl, rfl⟩).trans (if_pos ⟨rfl, rfl⟩)

theorem decodeWire_energyRequest (a period p1 lo hi : Byte) :
    decodeWire (packFrame (requestBytes a cmdEnergy period p1 lo hi))
      = .ok (.wireReqEnergy a period p1 lo hi) := by
  have hcmd : ¬ (cmdEnergy = cmdDsp ∧ p1 = 0) := fun h => absurd h.1 (by decide)
  rw [decodeWire, unpackFrame_packFrame]
  exact (if_pos ⟨rfl, rfl, rfl, rfl⟩).trans ((if_neg hcmd).trans (if_pos rfl))

/-! Runs of PUSHes with and without a CLR (R99, R111, R228). -/

/-- Bytes past the tenth are dropped. -/
theorem writeFrom_full (g : Frame) {k : Nat} (hk : 10 ≤ k) (bytes : List Byte) :
    writeFrom g k bytes = g := by
  apply Vector.ext
  intro i hi
  rw [writeFrom_byte, dif_neg (by omega)]

/-- Any PUSH leaves what it would leave just after another one with the same bytes and count. -/
theorem foldl_pushed_buffered {bytes : List Byte} (hne : bytes ≠ []) (s : State) :
    bytes.foldl State.pushed s = bytes.foldl State.pushed (s.buffered s.fb s.len) := by
  cases bytes with
  | nil => exact absurd rfl hne
  | cons b bs => rfl

/-- Pushing onto old content appends to it (R228). -/
theorem foldl_pushed_of_ne_nil {bytes : List Byte} (hne : bytes ≠ []) (s : State) :
    bytes.foldl State.pushed s
      = s.buffered (writeFrom s.fb s.len.toNat bytes)
          (BitVec.ofNat 4 (min (s.len.toNat + bytes.length) 15)) :=
  (foldl_pushed_buffered hne s).trans (foldl_pushed s bytes s.fb s.len)

theorem runInstrs_frame (bytes : List Byte) (s : State) :
    runInstrs (expandPseudo (.frame bytes)) s = .next (bytes.foldl State.pushed s.emptied) :=
  (runInstrs_cons rfl).trans (runInstrs_pushes bytes s.emptied)

/-- PUSHes and a VAL that finds another count than ten (R113). -/
theorem runInstrs_pushes_val {bytes : List Byte} {s t : State}
    (ht : bytes.foldl State.pushed s = t) (hlen : t.len ≠ 10) :
    runInstrs (bytes.map .push ++ [.val]) s = .next (t.clearFlags.complete codeInvalidLength) := by
  rw [runInstrs_append _ _ _ _ (runInstrs_pushes bytes s), ht]
  exact runInstrs_cons (execVal_wrongLength t hlen)

/-- A saturated count is ten only for ten bytes. -/
theorem count_ne_ten {n : Nat} (h : n ≠ 10) : BitVec.ofNat 4 (min n 15) ≠ 10 := by
  intro heq
  have := congrArg BitVec.toNat heq
  simp only [BitVec.toNat_ofNat, show (10 : BitVec 4).toNat = 10 from rfl] at this
  omega

end Sys2Proof.Machine
end

section
/-! The statements about the ports, the buffered bytes and the built requests. -/

namespace Sys2Proof.Machine

/-- Settles O39: each field by its place in the sum that makes the word. -/
theorem statusAndInfoFields : Obligations.StatusAndInfoFields := by
  refine ⟨fun s => ?_, fun a s h => ?_⟩
  · have hc := s.code.isLt
    have hl := s.len.isLt
    have h1 := s.frameOk.toNat_lt
    have h2 := s.dspValid.toNat_lt
    have h3 := s.nrgValid.toNat_lt
    have h4 := s.busy.toNat_lt
    have hp := s.dspParam.isLt
    have hk := s.dspK.isLt
    have hu := s.dspUnit.isLt
    have hs := statusWord_toNat s
    have hi := dspInfo_toNat s
    refine ⟨statusWord_code s, getLsbD_eq_of_div ?_, getLsbD_eq_of_div ?_, getLsbD_eq_of_div ?_,
      getLsbD_eq_of_div (b := s.busy) ?_, getLsbD_eq_of_div (b := false) (show _ = 0 from ?_),
      extractLsb'_eq_of_div ?_, extractLsb'_eq_of_div (v := 0) (show _ = 0 from ?_),
      extractLsb'_eq_of_div ?_, extractLsb'_eq_of_div ?_, extractLsb'_eq_of_div ?_,
      extractLsb'_eq_of_div (v := 0) (show _ = 0 from ?_)⟩
    all_goals omega
  · simp only [State.statusWord, State.busy, h.code, h.frameOk, h.dspValid, h.nrgValid, h.busy,
      h.len]
    rfl

/-- Settles O40: the packed number's bytes, and two of them side by side. -/
theorem widePortPacksTheBytes : Obligations.WidePortPacksTheBytes := by
  intro s
  have hbyte := packFrame_byte s.fb
  refine ⟨hbyte, ?_, ?_, fun i hi => ?_⟩
  · exact (extractLsb'_sixteen s.fbPort 64).trans (congrArg₂ le16 (hbyte 8 _) (hbyte 9 _))
  · exact (extractLsb'_sixteen s.fbPort 48).trans (congrArg₂ le16 (hbyte 6 _) (hbyte 7 _))
  · exact (BitVec.extractLsb'_extractLsb'_of_le (by omega)).trans (hbyte i _)

/-- Settles O33: FRAME writes its bytes from position 0 on and counts them. -/
theorem frameCountsAndKeepsTenBytes : Obligations.FrameCountsAndKeepsTenBytes := by
  intro bytes s
  refine ⟨_, (runInstrs_frame bytes s).trans (congrArg _ (emptied_pushes s bytes)), ?_, rfl, rfl,
    fun i hi => ?_⟩
  · change (BitVec.ofNat 4 (min bytes.length 15)).toNat = _
    rw [BitVec.toNat_ofNat]
    omega
  · change (writeFrom s.fb 0 bytes)[i] = _
    rw [writeFrom_byte]
    by_cases h : i < bytes.length
    · simp [h]
    · simp [h]

/-- Settles O36: the pushed bytes go after the old content, and after a reset there is none. -/
theorem forgottenClrIsReported : Obligations.ForgottenClrIsReported := by
  refine ⟨fun bytes s hlen => ?_, fun bytes s hfull hne => ?_, fun a bytes s hreset hne => ?_⟩
  · by_cases hne : bytes = []
    · subst hne
      exact ⟨_, runInstrs_pushes_val rfl fun h => hlen (congrArg BitVec.toNat h), rfl⟩
    · exact ⟨_, runInstrs_pushes_val (foldl_pushed_of_ne_nil hne s) (count_ne_ten hlen), rfl⟩
  · have hlen : s.len.toNat + bytes.length ≠ 10 := by
      have := List.length_pos_of_ne_nil hne
      omega
    exact ⟨_, runInstrs_pushes_val (foldl_pushed_of_ne_nil hne s) (count_ne_ten hlen), rfl,
      writeFrom_full s.fb hfull bytes, rfl⟩
  · rw [runInstrs_frame, runInstrs_pushes, foldl_pushed_buffered hne, hreset.len]
    rfl

/-- Settles O25: a successful build leaves a sealed request of its own row. -/
theorem builtRequestsMatchTheWireRows : Obligations.BuiltRequestsMatchTheWireRows := by
  refine ⟨fun code s t h hok => ?_, fun period s t h hok => ?_⟩
  · cases performs_of_exec h with
    | reqdUnknown => cases hok
    | reserved _ hk => cases hk
    | reqdBuilt _ p hp =>
      refine ⟨decodeWire_dspRequest .., ?_⟩
      have hseal := checksumAgrees_sealedRequest s.addr cmdDsp code 0
      simp only [Instr.wellFormed, hp, Option.isSome_some, Bool.true_and]
      exact hseal
  · cases performs_of_exec h with
    | reqeUnknown => cases hok
    | reserved _ hk => cases hk
    | reqeBuilt _ p hp =>
      refine ⟨decodeWire_energyRequest .., ?_⟩
      have hseal := checksumAgrees_sealedRequest s.addr cmdEnergy period s.params.energyParam1
      simp only [Instr.wellFormed, hp, Option.isSome_some, Bool.true_and]
      exact hseal

end Sys2Proof.Machine
end

section
/-! SUPPORT. What each group of instructions does to the three flags and to `SUM` (R25, R27, R28, R29). -/

namespace Sys2Proof.Machine

/-- What an instruction of a group, from `s` to `t`, does to the three flags. -/
def FlagRule (s t : State) : InstrKind → Prop
  | .frameEdit => t.frameOk = false ∧ t.dspValid = false ∧ t.nrgValid = false
  | .validation => (t.frameOk = true ↔ t.code = 1) ∧ t.dspValid = false ∧ t.nrgValid = false
  | .request =>
    (t.code = 1 → t.frameOk = false ∧ t.dspValid = false ∧ t.nrgValid = false) ∧
    (t.code ≠ 1 → t.frameOk = s.frameOk ∧ t.dspValid = s.dspValid ∧ t.nrgValid = s.nrgValid)
  | .dspDecode =>
    t.frameOk = s.frameOk ∧ (t.dspValid = true ↔ t.code = 1) ∧ t.nrgValid = s.nrgValid
  | .energyDecode =>
    t.frameOk = s.frameOk ∧ t.dspValid = s.dspValid ∧ (t.nrgValid = true ↔ t.code = 1)
  | .reserved => t.frameOk = s.frameOk ∧ t.dspValid = s.dspValid ∧ t.nrgValid = s.nrgValid
  | .wireFrame => t.frameOk = false ∧ t.dspValid = false ∧ t.nrgValid = false

/-- Every instruction obeys its group's rule. -/
theorem flagRule_of_exec {i : Instr} {s t : State} {k : InstrKind} (h : exec i s = .next t)
    (hk : i.kind = k) : FlagRule s t k := by
  subst hk
  have hfails {u : State} {c : BitVec 3} (hc : c ≠ 1) : false = true ↔ (u.complete c).code = 1 :=
    iff_of_false nofun hc
  cases performs_of_exec h with
  | clr | push | enc => exact ⟨rfl, rfl, rfl⟩
  | wireDsp | wireEnergy =>
    rw [received_eq]
    exact ⟨rfl, rfl, rfl⟩
  | valAgrees => exact ⟨iff_of_true rfl rfl, rfl, rfl⟩
  | valLength | valMismatch => exact ⟨hfails (by decide), rfl, rfl⟩
  | reqdBuilt | reqeBuilt => exact ⟨fun _ => ⟨rfl, rfl, rfl⟩, fun hne => absurd rfl hne⟩
  | reqdUnknown | reqeUnknown => exact ⟨nofun, fun _ => ⟨rfl, rfl, rfl⟩⟩
  | decdLatched => exact ⟨rfl, iff_of_true rfl rfl, rfl⟩
  | decdNoFrame | decdUnknown => exact ⟨rfl, hfails (by decide), rfl⟩
  | deceLatched => exact ⟨rfl, rfl, iff_of_true rfl rfl⟩
  | deceNoFrame => exact ⟨rfl, rfl, hfails (by decide)⟩
  | reserved _ hk =>
    rw [hk]
    exact ⟨rfl, rfl, rfl⟩

/-- Every instruction but VAL clears `FRAME_OK` or keeps it (R27). -/
theorem frameOk_of_ne_val {i : Instr} {s t : State} (h : exec i s = .next t) (hi : i ≠ .val) :
    t.frameOk = false ∨ t.frameOk = s.frameOk := by
  cases performs_of_exec h with
  | valLength | valAgrees | valMismatch => exact absurd rfl hi
  | clr | push | enc | reqdBuilt | reqeBuilt => exact .inl rfl
  | wireDsp | wireEnergy => exact .inl (received_eq s _ ▸ rfl)
  | _ => exact .inr rfl

/-- What does not write `SUM` keeps it (R25). -/
theorem sum_of_not_writesSum {i : Instr} {s t : State} (h : exec i s = .next t)
    (hw : ¬ WritesSum i s t) : t.sum = s.sum := by
  cases performs_of_exec h with
  | enc a c p0 p1 => exact absurd (.inl ⟨a, c, p0, p1, rfl⟩) hw
  | valAgrees hl | valMismatch hl => exact absurd (.inr (.inr ⟨rfl, hl⟩)) hw
  | reqdBuilt | reqeBuilt => exact absurd (.inr (.inl ⟨rfl, rfl⟩)) hw
  | wireDsp | wireEnergy => rw [received_eq]
  | _ => rfl

/-- A checksum needs eleven bits (R114). -/
theorem cksum_highBits (f : Frame) : (cksum f).extractLsb' 11 5 = 0 := by
  apply extractLsb'_eq_of_div
  have hle := byteSum_le f
  rw [cksum_toNat]
  change _ = 0
  omega

end Sys2Proof.Machine
end

section
/-! The statements about the flags and the writers of the registers. -/

namespace Sys2Proof.Machine

/-- Settles O43, by the rule of each group. -/
theorem frameOkIsSetOnlyByVal : Obligations.FrameOkIsSetOnlyByVal := by
  refine ⟨fun i s t h => ⟨fun hclear hset => ?_, ?_, ?_, ?_⟩, fun s a => rfl⟩
  · by_cases hi : i = .val
    · subst hi
      exact ⟨rfl, (flagRule_of_exec h rfl).1.1 hset⟩
    · rcases frameOk_of_ne_val h hi with ht | ht
      · cases ht.symm.trans hset
      · cases (ht.trans hclear).symm.trans hset
  · rintro rfl
    exact (flagRule_of_exec h rfl).1
  · rintro (hk | ⟨hk, hok⟩)
    · exact (flagRule_of_exec h hk).1
    · exact ((flagRule_of_exec h hk).1 hok).1
  · rintro (hk | hk | ⟨hk, hfails⟩ | hk)
    · exact (flagRule_of_exec h hk).1
    · exact (flagRule_of_exec h hk).1
    · exact ((flagRule_of_exec h hk).2 hfails).1
    · exact (flagRule_of_exec h hk).1

/-- Settles O44, by the rule of each group. -/
theorem dspValidIsSetOnlyByDecd : Obligations.DspValidIsSetOnlyByDecd := by
  refine ⟨fun i s t h => ⟨fun hk => (flagRule_of_exec h hk).2.1, ?_, ?_⟩, fun s a => rfl⟩
  · rintro (hk | hk | ⟨hk, hok⟩)
    · exact (flagRule_of_exec h hk).2.1
    · exact (flagRule_of_exec h hk).2.1
    · exact ((flagRule_of_exec h hk).1 hok).2.1
  · rintro (hk | ⟨hk, hfails⟩ | hk)
    · exact (flagRule_of_exec h hk).2.1
    · exact ((flagRule_of_exec h hk).2 hfails).2.1
    · exact (flagRule_of_exec h hk).2.1

/-- Settles O45, by the rule of each group. -/
theorem nrgValidIsSetOnlyByDece : Obligations.NrgValidIsSetOnlyByDece := by
  refine ⟨fun i s t h => ⟨fun hk => (flagRule_of_exec h hk).2.2, ?_, ?_⟩, fun s a => rfl⟩
  · rintro (hk | hk | ⟨hk, hok⟩)
    · exact (flagRule_of_exec h hk).2.2
    · exact (flagRule_of_exec h hk).2.2
    · exact ((flagRule_of_exec h hk).1 hok).2.2
  · rintro (hk | ⟨hk, hfails⟩ | hk)
    · exact (flagRule_of_exec h hk).2.2
    · exact ((flagRule_of_exec h hk).2 hfails).2.2
    · exact (flagRule_of_exec h hk).2.2

/-- Settles O46: `SUM` by its writers, the results by the one outcome that latches each. -/
theorem resultRegistersHaveTheirWriters : Obligations.ResultRegistersHaveTheirWriters := by
  intro i s t h
  refine ⟨?_, fun hnot => ?_, fun hnot => ?_⟩
  · by_cases hw : WritesSum i s t
    · have hsum := (sum_of_writesSum h hw).2
      exact .inr ⟨hsum, hsum ▸ cksum_highBits t.fb, hw⟩
    · exact .inl (sum_of_not_writesSum h hw)
  · cases performs_of_exec h with
    | decdLatched => exact absurd rfl (hnot.resolve_left (not_not_intro rfl))
    | wireDsp | wireEnergy => simp only [received_eq, and_self]
    | _ => exact ⟨rfl, rfl, rfl, rfl, rfl⟩
  · cases performs_of_exec h with
    | deceLatched => exact absurd rfl (hnot.resolve_left (not_not_intro rfl))
    | wireDsp | wireEnergy => rw [received_eq]
    | _ => rfl

end Sys2Proof.Machine
end

section
/-! The statements about one step and about the edges of a command in flight. -/

namespace Sys2Proof.Machine

/-- Decodable words of either kind are performed as their instruction. -/
theorem perform_of_decode {e : Encoded} {i : Instr} (h : decode e = .ok i) (s : State) :
    perform e s = exec i s := by
  cases e with
  | command w =>
    cases h
    rfl
  | wire w => exact perform_wire_ok h s

/-- A step that performs decodable words (R21, R67). -/
theorem step_of_decode {s : State} {e : Encoded} {i : Instr} (hcode : s.code ≠ 7)
    (hidle : s.inFlight = none) (he : s.program[s.index]? = some (.present e))
    (hdecode : decode e = .ok i) : step s = advanceIndex (exec i s) := by
  rw [step_of_present hidle he, State.unlessReserved_of_ne hcode, perform_of_decode hdecode]

/-- The words of a row that decodes. -/
theorem decodeTableWord_eq_some {nbits w : Nat} {i : Instr} (h : decodeTableWord nbits w = some i) :
    ∃ e, tableWord nbits w = .ok e ∧ decode e = .ok i := by
  unfold decodeTableWord at h
  split at h
  · cases h
  · next e he =>
    split at h <;> cases h
    next hi => exact ⟨e, he, hi⟩

/-- A decodable row of any width is what the next step runs (log entry 7). -/
theorem step_withFetchWord {s : State} {nbits w : Nat} {i : Instr} (hcode : s.code ≠ 7)
    (h : decodeTableWord nbits w = some i) :
    step (s.withFetchWord nbits w) = advanceIndex (exec i (s.withFetchWord nbits w)) := by
  obtain ⟨e, he, hdecode⟩ := decodeTableWord_eq_some h
  have hs : s.withFetchWord nbits w = s.withHostWords e := by
    simp only [State.withFetchWord, he]
  rw [hs]
  exact step_of_decode hcode rfl rfl hdecode

/-- Settles O7: every instruction answers, and the index moves past it. -/
theorem stepRunsTheDecodedInstruction : Obligations.StepRunsTheDecodedInstruction := by
  intro s e i hcode hidle he hdecode
  obtain ⟨t, ht⟩ := exec_answers i s
  rw [step_of_decode hcode hidle he hdecode, ht, advanceIndex_next]

/-- Settles O8, both widths by the lemma for any row. -/
theorem fetchWordIsRunNext : Obligations.FetchWordIsRunNext :=
  fun _ _ _ hcode => ⟨fun _ => step_withFetchWord hcode, fun _ => step_withFetchWord hcode⟩

/-- Settles O9: the latched opcode and argument decode as their word. -/
theorem stepCompletesTheAcceptedCommand : Obligations.StepCompletesTheAcceptedCommand := by
  intro s p hcode hbusy
  rw [step_of_inFlight hbusy, State.unlessReserved_of_ne hcode, completeInFlight,
    decodeCommand_commandWord]

/-- Settles O53, by induction on the edges: each takes one from the edges left. -/
theorem registersHoldWhileBusy : Obligations.RegistersHoldWhileBusy := by
  intro s p ins hcode hbusy hrst hlen hne
  induction ins generalizing s p with
  | nil => exact absurd rfl hne
  | cons e es ih =>
    obtain ⟨he, hes⟩ := List.forall_mem_cons.1 hrst
    rw [List.length_cons] at hlen
    obtain ⟨n, hn⟩ : ∃ n, p.remaining = n + 2 := ⟨p.remaining - 2, by omega⟩
    rw [clockRun_cons (clockEdge_waits he hcode hbusy hn)]
    by_cases hlast : es = []
    · subst hlast
      simp only [clockRun, State.waiting, List.length_cons, List.length_nil, hn]
      rfl
    · have hleft : p.remaining - (e :: es).length = n + 1 - es.length := by
        simp only [List.length_cons]
        omega
      rw [ih (s.waiting p (n + 1)) { p with remaining := n + 1 } hcode rfl hes
        (show es.length < n + 1 by omega) hlast, hleft]
      rfl

/-- Settles O54, by the outcomes of an edge. -/
theorem handshakeRegistersFollowTheEdge : Obligations.HandshakeRegistersFollowTheEdge := by
  intro inp s t h
  refine ⟨?_, ?_, fun p hrst hbusy hleft => ?_, fun hquiet => ?_⟩
  · cases edge_of_clockEdge h with
    | reset hrst => simp [hrst]
    | completes hrst p hbusy hleft t h => simp [hrst, hbusy, hleft, (exec_completes h).2.2]
    | waits _ _ hbusy _ hleft => simp [hbusy, hleft]
    | accepts _ hidle => simp [hidle]
    | idles _ hidle => simp [hidle]
  · cases edge_of_clockEdge h with
    | reset hrst => simp [hrst]
    | completes hrst _ _ _ _ h =>
      obtain ⟨hidle, hready, -⟩ := exec_completes h
      simp [hrst, hidle, hready]
    | waits => simp
    | accepts => simp
    | idles hrst hidle => simp [hrst, hidle]
  · cases edge_of_clockEdge h with
    | reset hrst' => simp [hrst] at hrst'
    | completes _ q hbusy' _ _ h =>
      cases hbusy.symm.trans hbusy'
      refine ⟨t, (decodeCommand_commandWord ..).symm ▸ h, ?_, rfl, statusWord_code t⟩
      exact if_pos (exec_completes h).2.2
    | waits _ q hbusy' _ hleft' =>
      cases hbusy.symm.trans hbusy'
      omega
    | accepts _ hidle | idles _ hidle => cases hbusy.symm.trans hidle
  · exact if_neg (by simp [hquiet])

end Sys2Proof.Machine
end

section
/-! SUPPORT. Two states that a host cannot tell apart, and that every instruction keeps them so: what R225 lets
the host rely on never depends on the rest. -/

namespace Sys2Proof.Machine

/-- Each outcome is what exec answers: with `performs_of_exec`, the outcomes and exec say the same. -/
theorem exec_of_performs {i : Instr} {s t : State} (h : Performs s i t) : exec i s = .next t := by
  cases h with
  | valLength h => exact execVal_wrongLength s h
  | valAgrees h hc => exact execVal_agrees s h hc
  | valMismatch h hc => exact execVal_mismatch s h hc
  | reqdUnknown _ h | reqdBuilt _ _ h => simp only [exec, execReqd, h, State.fail_eq]
  | reqeUnknown _ h | reqeBuilt _ _ h => simp only [exec, execReqe, h, State.fail_eq]
  | decdNoFrame _ h => exact if_neg (by simp [h])
  | decdUnknown _ h hp | decdLatched _ _ h hp =>
    exact (if_pos h).trans (by simp only [hp, State.fail_eq])
  | deceNoFrame h => exact if_neg (by simp [h])
  | deceLatched h => exact if_pos h
  | reserved _ h => exact exec_of_reserved h s
  | clr | push | enc | wireDsp | wireEnergy => rfl

/-- Equal in everything that R225 lets the host rely on, `SUM` aside: the control registers, the bytes below
`LEN`, and the results under their flags. -/
structure HostAgrees (s t : State) : Prop where
  len : s.len = t.len
  code : s.code = t.code
  frameOk : s.frameOk = t.frameOk
  dspValid : s.dspValid = t.dspValid
  nrgValid : s.nrgValid = t.nrgValid
  addr : s.addr = t.addr
  params : s.params = t.params
  busy : s.busy = t.busy
  bytes : ∀ (i : Nat) (hi : i < 10), i < s.len.toNat → s.fb[i] = t.fb[i]
  dsp : s.dspValid = true → s.raw16 = t.raw16 ∧ s.dspParam = t.dspParam ∧ s.dspK = t.dspK ∧
    s.dspUnit = t.dspUnit ∧ s.scaled = t.scaled
  nrg : s.nrgValid = true → s.raw32 = t.raw32

namespace HostAgrees

variable {s t : State}

/-- Once ten bytes are counted the whole buffers are equal. -/
theorem fb_eq (h : HostAgrees s t) (hlen : 10 ≤ s.len.toNat) : s.fb = t.fb :=
  Vector.ext fun i hi => h.bytes i hi (by omega)

/-- Reset states with the same sampled address and parameters (R220). -/
theorem of_reset {a : Byte} (hs : IsResetState a s) (ht : IsResetState a t)
    (hparams : s.params = t.params) : HostAgrees s t where
  len := hs.len.trans ht.len.symm
  code := hs.code.trans ht.code.symm
  frameOk := hs.frameOk.trans ht.frameOk.symm
  dspValid := hs.dspValid.trans ht.dspValid.symm
  nrgValid := hs.nrgValid.trans ht.nrgValid.symm
  addr := hs.addr.trans ht.addr.symm
  params := hparams
  busy := by rw [State.busy, State.busy, hs.busy, ht.busy]
  bytes i _ hlt := by
    rw [hs.len] at hlt
    exact absurd hlt (Nat.not_lt_zero i)
  dsp hv := absurd (hs.dspValid.symm.trans hv) Bool.false_ne_true
  nrg hv := absurd (hs.nrgValid.symm.trans hv) Bool.false_ne_true

/-! Each shared operation of the model. -/

theorem complete (h : HostAgrees s t) (c : BitVec 3) : HostAgrees (s.complete c) (t.complete c) :=
  { h with code := rfl, busy := rfl }

theorem clearDspValid (h : HostAgrees s t) : HostAgrees s.clearDspValid t.clearDspValid :=
  { h with dspValid := rfl, dsp := nofun }

theorem clearNrgValid (h : HostAgrees s t) : HostAgrees s.clearNrgValid t.clearNrgValid :=
  { h with nrgValid := rfl, nrg := nofun }

/-- Whatever an instruction puts into the buffer, into `SUM` and into `FRAME_OK`: only the bytes below the new
count must be equal, because both decode flags are cleared. -/
theorem edited (h : HostAgrees s t) (ok : Bool) {f g : Frame} {m n : BitVec 4} (x y : BitVec 16)
    (hlen : m = n) (hbytes : ∀ (i : Nat) (hi : i < 10), i < m.toNat → f[i] = g[i]) :
    HostAgrees (({ s with fb := f, sum := x, len := m } : State).setVerdict ok)
      (({ t with fb := g, sum := y, len := n } : State).setVerdict ok) where
  len := hlen
  code := h.code
  frameOk := rfl
  dspValid := rfl
  nrgValid := rfl
  addr := h.addr
  params := h.params
  busy := h.busy
  bytes := hbytes
  dsp := nofun
  nrg := nofun

theorem emptied (h : HostAgrees s t) : HostAgrees s.emptied t.emptied :=
  (h.edited (m := 0) false s.sum t.sum rfl
    fun i _ hi => absurd hi (Nat.not_lt_zero i)).complete codeOk

theorem pushed (h : HostAgrees s t) (b : Byte) : HostAgrees (s.pushed b) (t.pushed b) := by
  refine (h.edited false s.sum t.sum (congrArg nextLen h.len) fun i hi hlt => ?_).complete codeOk
  rw [Vector.getElem_setIfInBounds, Vector.getElem_setIfInBounds, ← h.len]
  rw [nextLen_toNat] at hlt
  by_cases hb : s.len.toNat = i
  · rw [if_pos hb, if_pos hb]
  · rw [if_neg hb, if_neg hb]
    exact h.bytes i hi (by omega)

theorem built (h : HostAgrees s t) (a c p0 p1 : Byte) :
    HostAgrees (s.built a c p0 p1) (t.built a c p0 p1) :=
  (h.edited false _ _ rfl fun _ _ _ => rfl).complete codeOk

theorem received (h : HostAgrees s t) (f : Frame) : HostAgrees (s.received f) (t.received f) := by
  rw [received_eq_complete, received_eq_complete]
  exact (h.edited false s.sum t.sum rfl fun _ _ _ => rfl).complete codeOk

theorem dspLatched (h : HostAgrees s t) (hfb : s.fb = t.fb) (code : Byte) (p : DspParameter) :
    HostAgrees (s.dspLatched code p) (t.dspLatched code p) :=
  { h with
    dspValid := rfl
    dsp := fun _ => by
      simp only [State.dspLatched_raw16, State.dspLatched_dspParam, State.dspLatched_dspK,
        State.dspLatched_dspUnit, State.dspLatched_scaled, hfb, h.params, and_self] }

theorem nrgLatched (h : HostAgrees s t) (hfb : s.fb = t.fb) :
    HostAgrees s.nrgLatched t.nrgLatched :=
  { h with
    nrgValid := rfl
    nrg := fun _ => by simp only [State.nrgLatched_raw32, hfb, h.params] }

/-- A sealed frame has ten bytes (I1 of R40), so both buffers hold it. -/
theorem fb_eq_of_frameOk (h : HostAgrees s t) (hs : ArchInv s) (hf : s.frameOk = true) :
    s.fb = t.fb :=
  h.fb_eq (by rw [(hs.sealed hf).1]; decide)

/-- What an instruction does in one of the two states it does in the other. -/
theorem of_performs {i : Instr} {s' : State} (h : HostAgrees s t) (hs : ArchInv s)
    (hp : Performs s i s') : ∃ t', Performs t i t' ∧ HostAgrees s' t' := by
  have hten (hl : s.len = 10) : s.fb = t.fb := h.fb_eq (by rw [hl]; decide)
  cases hp with
  | clr => exact ⟨_, .clr, h.emptied⟩
  | push b => exact ⟨_, .push b, h.pushed b⟩
  | enc a c p0 p1 => exact ⟨_, .enc a c p0 p1, h.built ..⟩
  | valLength hl =>
    exact ⟨_, .valLength (h.len ▸ hl), (h.edited false s.sum t.sum h.len h.bytes).complete _⟩
  | valAgrees hl hc =>
    exact ⟨_, .valAgrees (h.len ▸ hl) (hten hl ▸ hc), (h.edited true _ _ h.len h.bytes).complete _⟩
  | valMismatch hl hc =>
    exact ⟨_, .valMismatch (h.len ▸ hl) (hten hl ▸ hc),
      (h.edited false _ _ h.len h.bytes).complete _⟩
  | reqdUnknown code hn => exact ⟨_, .reqdUnknown code hn, h.complete _⟩
  | reqdBuilt code p hp => exact ⟨_, .reqdBuilt code p hp, h.addr ▸ h.built ..⟩
  | reqeUnknown period hn => exact ⟨_, .reqeUnknown period hn, h.complete _⟩
  | reqeBuilt period p hp => exact ⟨_, .reqeBuilt period p hp, h.addr ▸ h.params ▸ h.built ..⟩
  | decdNoFrame code hf =>
    exact ⟨_, .decdNoFrame code (h.frameOk ▸ hf), h.clearDspValid.complete _⟩
  | decdUnknown code hf hn =>
    exact ⟨_, .decdUnknown code (h.frameOk ▸ hf) hn, h.clearDspValid.complete _⟩
  | decdLatched code p hf hp =>
    exact ⟨_, .decdLatched code p (h.frameOk ▸ hf) hp,
      (h.dspLatched (h.fb_eq_of_frameOk hs hf) code p).complete _⟩
  | deceNoFrame hf => exact ⟨_, .deceNoFrame (h.frameOk ▸ hf), h.clearNrgValid.complete _⟩
  | deceLatched hf =>
    exact ⟨_, .deceLatched (h.frameOk ▸ hf),
      (h.nrgLatched (h.fb_eq_of_frameOk hs hf)).complete _⟩
  | reserved _ hk => exact ⟨_, .reserved i hk, h.complete _⟩
  | wireDsp a code lo hi => exact ⟨_, .wireDsp a code lo hi, h.received _⟩
  | wireEnergy a period p1 lo hi => exact ⟨_, .wireEnergy a period p1 lo hi, h.received _⟩

/-- The same in terms of exec. -/
theorem of_exec {i : Instr} {s' : State} (h : HostAgrees s t) (hs : ArchInv s)
    (hi : exec i s = .next s') : ∃ t', exec i t = .next t' ∧ HostAgrees s' t' :=
  have ⟨t', hp, h'⟩ := h.of_performs hs (performs_of_exec hi)
  ⟨t', exec_of_performs hp, h'⟩

/-- `SUM` is equal once an instruction has written it, and stays so (R25). -/
theorem sum_of_exec {i : Instr} {s' t' : State} (h : HostAgrees s t) (h' : HostAgrees s' t')
    (hs : exec i s = .next s') (ht : exec i t = .next t')
    (hsum : s.sum = t.sum ∨ WritesSum i s s') : s'.sum = t'.sum := by
  have hiff : WritesSum i s s' ↔ WritesSum i t t' := by
    simp only [WritesSum, h.len, h'.code]
  by_cases hw : WritesSum i s s'
  · obtain ⟨hlen, hs'⟩ := sum_of_writesSum hs hw
    obtain ⟨-, ht'⟩ := sum_of_writesSum ht (hiff.1 hw)
    rw [hs', ht', h'.fb_eq (by rw [hlen]; decide)]
  · rw [sum_of_not_writesSum hs hw, sum_of_not_writesSum ht (hw ∘ hiff.2)]
    exact hsum.resolve_right hw

/-! Runs. -/

theorem statusTrace_eq (is : List Instr) {s t : State} (h : HostAgrees s t) (hs : ArchInv s) :
    statusTrace is s = statusTrace is t := by
  induction is generalizing s t with
  | nil => rfl
  | cons i is ih =>
    obtain ⟨s', hs'⟩ := exec_answers i s
    obtain ⟨t', ht', h'⟩ := h.of_exec hs hs'
    simp only [statusTrace, hs', ht', h'.code, ih h' (archInv_of_exec hs hs')]

theorem of_runInstrs (is : List Instr) {s t s' t' : State} (h : HostAgrees s t) (hs : ArchInv s)
    (hrs : runInstrs is s = .next s') (hrt : runInstrs is t = .next t') :
    ArchInv s' ∧ HostAgrees s' t' ∧ (s.sum = t.sum ∨ SumWritten is s → s'.sum = t'.sum) := by
  induction is generalizing s t with
  | nil =>
    cases hrs
    cases hrt
    exact ⟨hs, h, fun hsum => hsum.resolve_right id⟩
  | cons i is ih =>
    obtain ⟨u, hu⟩ := exec_answers i s
    obtain ⟨v, hv, huv⟩ := h.of_exec hs hu
    rw [runInstrs_cons hu] at hrs
    rw [runInstrs_cons hv] at hrt
    obtain ⟨hs', h', hsum'⟩ := ih huv (archInv_of_exec hs hu) hrs hrt
    refine ⟨hs', h', ?_⟩
    rintro (hsum | ⟨u', hu', hw | hw⟩)
    · exact hsum' (.inl (h.sum_of_exec huv hu hv (.inl hsum)))
    · cases hu.symm.trans hu'
      exact hsum' (.inl (h.sum_of_exec huv hu hv (.inr hw)))
    · cases hu.symm.trans hu'
      exact hsum' (.inr hw)

/-! What the host reads (R225). -/

theorem statusWord_eq (h : HostAgrees s t) : s.statusWord = t.statusWord := by
  simp only [State.statusWord, h.code, h.frameOk, h.dspValid, h.nrgValid, h.busy, h.len]

theorem payload_eq (h : HostAgrees s t) (hs : ArchInv s) : s.payload? = t.payload? := by
  cases hf : s.frameOk with
  | false => simp [State.payload?, hf, ← h.frameOk]
  | true =>
    simp only [State.payload?, State.payloadPort, State.fbPort, ← h.frameOk,
      h.fb_eq_of_frameOk hs hf]

theorem dspResult_eq (h : HostAgrees s t) : s.dspResult? = t.dspResult? := by
  cases hv : s.dspValid with
  | false => simp [State.dspResult?, hv, ← h.dspValid]
  | true =>
    obtain ⟨hraw, hparam, hk, hunit, hscaled⟩ := h.dsp hv
    simp only [State.dspResult?, State.dspRawPort, State.dspScaledPort, State.dspInfo, ← h.dspValid,
      hraw, hparam, hk, hunit, hscaled]

theorem energy_eq (h : HostAgrees s t) : s.energy? = t.energy? := by
  cases hv : s.nrgValid with
  | false => simp [State.energy?, hv, ← h.nrgValid]
  | true => simp only [State.energy?, State.nrgPort, ← h.nrgValid, h.nrg hv]

end HostAgrees

/-- Settles O56: two reset states agree for the host, every instruction keeps that, and what the host reads is a
function of it. -/
theorem drawsNeverReachTheHost : Obligations.DrawsNeverReachTheHost := by
  intro a s t is hs ht hparams
  have h : HostAgrees s t := .of_reset hs ht hparams
  have hinv : ArchInv s :=
    archInv_of_noFlags hs.frameOk hs.dspValid hs.nrgValid (by rw [hs.code]; decide)
  refine ⟨h.statusTrace_eq is hinv, fun s' t' hrs hrt => ?_⟩
  obtain ⟨hinv', h', hsum⟩ := h.of_runInstrs is hinv hrs hrt
  exact ⟨h'.statusWord_eq, h'.addr, h'.payload_eq hinv', h'.dspResult_eq, h'.energy_eq, h'.bytes,
    fun hlen => congrArg packFrame (h'.fb_eq hlen), fun hw => hsum (.inr hw)⟩

end Sys2Proof.Machine
end

section
/-! O48: every instruction but PUSH finds its own outcome already reached, and a PUSH moves the counter on (R68). -/

namespace Sys2Proof.Machine

/-- Receiving ten bytes again changes nothing: what FRAME writes depends on the bytes alone (R99). -/
theorem received_received (s : State) (f : Frame) : (s.received f).received f = s.received f := by
  simp only [received_eq]

/-- Once performed, an instruction but PUSH has the same outcome again, and it changes nothing: what guards the
outcome is kept, and what it writes depends on kept fields only. -/
theorem Performs.again {i : Instr} {s t : State} (h : Performs s i t) (hi : ∀ b, i ≠ .push b) :
    Performs t i t := by
  cases h with
  | push b => exact absurd rfl (hi b)
  | clr => exact .clr
  | enc a c p0 p1 => exact .enc a c p0 p1
  | valLength hl => exact .valLength hl
  | valAgrees hl hc => exact .valAgrees hl hc
  | valMismatch hl hc => exact .valMismatch hl hc
  | reqdUnknown code hp => exact .reqdUnknown code hp
  | reqdBuilt code p hp => exact .reqdBuilt code p hp
  | reqeUnknown period hp => exact .reqeUnknown period hp
  | reqeBuilt period p hp => exact .reqeBuilt period p hp
  | decdNoFrame code hf => exact .decdNoFrame code hf
  | decdUnknown code hf hp => exact .decdUnknown code hf hp
  | decdLatched code p hf hp => exact .decdLatched code p hf hp
  | deceNoFrame hf => exact .deceNoFrame hf
  | deceLatched hf => exact .deceLatched hf
  | reserved _ hk => exact .reserved i hk
  | wireDsp a code ckLo ckHi =>
    have h := Performs.wireDsp (s := s.received (requestBytes a cmdDsp code 0 ckLo ckHi)) a code ckLo ckHi
    rwa [received_received] at h
  | wireEnergy a period p1 ckLo ckHi =>
    have h := Performs.wireEnergy (s := s.received (requestBytes a cmdEnergy period p1 ckLo ckHi))
      a period p1 ckLo ckHi
    rwa [received_received] at h

/-- A counter that is not saturated tells a push from no push (R24, R111). -/
theorem pushed_ne_self {s : State} (h : s.len.toNat < 15) (b : Byte) : s.pushed b ≠ s := by
  intro heq
  have hlen : (nextLen s.len).toNat = s.len.toNat := congrArg (·.len.toNat) heq
  rw [nextLen_toNat] at hlen
  omega

/-- Settles O48: every outcome but PUSH's is reached again from the state it leaves, and the second PUSH after reset
moves the counter on again. -/
theorem commandsButPushAreIdempotent : Obligations.CommandsButPushAreIdempotent :=
  ⟨fun _ _ _ hi h => exec_of_performs ((performs_of_exec h).again hi),
    fun b => ⟨State.reset, State.reset.pushed b, _, rfl, rfl,
      pushed_ne_self (show (nextLen 0).toNat < 15 by decide) b⟩⟩

end Sys2Proof.Machine
end

section
/-! SUPPORT. What decoding keeps of a command word, and what ten wire bytes that decode must be (R82 to R87). -/

namespace Sys2Proof.Machine

/-! Command words (R81 to R86). -/

/-- A reserved opcode is its row's prefix, in front, and its free low bits (R85). -/
theorem rowOpcode_extractLsb' {op : Byte} {n : Nat} {p : BitVec (8 - n)}
    (h : op.extractLsb' n (8 - n) = p) : rowOpcode (2 ^ n * p.toNat) (op.extractLsb' 0 n) = op := by
  have hhigh : op.toNat / 2 ^ n < 2 ^ (8 - n) := by
    apply Nat.div_lt_of_lt_mul
    rw [← pow_add]
    exact op.isLt.trans_le (Nat.pow_le_pow_right (by decide) (by omega))
  apply BitVec.eq_of_toNat_eq
  rw [← h, rowOpcode, BitVec.toNat_ofNat, BitVec.extractLsb'_toNat, BitVec.extractLsb'_toNat,
    Nat.shiftRight_zero, Nat.shiftRight_eq_div_pow, Nat.mod_eq_of_lt hhigh, Nat.div_add_mod,
    Nat.mod_eq_of_lt op.isLt]

/-- The words of a reserved opcode's instruction hold that opcode (R85, R86) and no argument (log entry 11). -/
theorem encode_decodeReserved {op : Byte} (h : 9 ≤ op.toNat) :
    encode (decodeReserved op) = .command (commandWord op formN) := by
  have hword {o : Byte} (ho : o = op) :
      Encoded.command (commandWord o formN) = .command (commandWord op formN) := by
    rw [ho]
  unfold decodeReserved
  split_ifs with h7 h6 h5 h4 h2 h1
  · exact hword (rowOpcode_extractLsb' h7)
  · exact hword (rowOpcode_extractLsb' h6)
  · exact hword (rowOpcode_extractLsb' h5)
  · exact hword (rowOpcode_extractLsb' h4)
  · exact hword (rowOpcode_extractLsb' h2)
  · exact hword (rowOpcode_extractLsb' h1)
  · simp only [← BitVec.toNat_inj, BitVec.extractLsb'_toNat, Nat.shiftRight_eq_div_pow,
      BitVec.reduceToNat] at h7 h6 h5 h4 h2 h1
    exact hword (BitVec.eq_of_toNat_eq (show 9 = op.toNat by omega))

/-- The opcode map's rows (R84, R85): the later reserved opcodes, format `E`, and the formats `B` and `N`. -/
theorem opcode_cases (op : Byte) :
    9 ≤ op.toNat ∨ op = 0x04 ∨ (op = 0x02 ∨ op = 0x05 ∨ op = 0x06 ∨ op = 0x07) ∨
      (op = 0x00 ∨ op = 0x01 ∨ op = 0x03 ∨ op = 0x08) := by
  revert op
  decide

/-- The reserved opcodes behind the commands (R85). -/
theorem decodeOp_of_nine_le {op : Byte} (h : 9 ≤ op.toNat) (arg : BitVec 32) :
    decodeOp op arg = decodeReserved op := by
  unfold decodeOp
  split
  case h_10 => rfl
  all_goals omega

/-- The argument bits that an opcode's format reads, the others 0 (R82, R83). -/
def keptArg (op : Byte) (arg : BitVec 32) : BitVec 32 :=
  if op = 0x04 then arg
  else if op = 0x02 ∨ op = 0x05 ∨ op = 0x06 ∨ op = 0x07 then formB (argByte arg)
  else formN

theorem keptArg_formatB {op : Byte} (h : op = 0x02 ∨ op = 0x05 ∨ op = 0x06 ∨ op = 0x07)
    (arg : BitVec 32) : keptArg op arg = formB (argByte arg) := by
  rcases h with rfl | rfl | rfl | rfl <;> rfl

theorem keptArg_formatN {op : Byte} (arg : BitVec 32)
    (h : op ≠ 0x02 ∧ op ≠ 0x04 ∧ op ≠ 0x05 ∧ op ≠ 0x06 ∧ op ≠ 0x07) : keptArg op arg = formN := by
  obtain ⟨h2, h4, h5, h6, h7⟩ := h
  simp only [keptArg, h2, h4, h5, h6, h7, or_self, if_false]

/-- Format `B` written: bits 31:8 are 0 (R82, R98). -/
theorem formB_ignored (b : Byte) : (formB b).extractLsb' 8 24 = 0 := by
  have hb := b.isLt
  apply extractLsb'_eq_of_div
  rw [formB, BitVec.toNat_ofNat]
  exact (show b.toNat % 2 ^ 32 / 2 ^ 8 % 2 ^ 24 = 0 by omega)

theorem keptArg_of_nine_le {op : Byte} (h : 9 ≤ op.toNat) (arg : BitVec 32) :
    keptArg op arg = formN := by
  have hne {b : Byte} (hb : b.toNat < 9) : op ≠ b := by
    rintro rfl
    omega
  simp [keptArg, hne]

/-- Format `E` reads its whole argument (R82). -/
theorem formE_fields (arg : BitVec 32) :
    formE (argAddress arg) (argCommand arg) (argParam0 arg) (argParam1 arg) = arg := by
  have h := arg.isLt
  apply BitVec.eq_of_toNat_eq
  simp only [formE, le32_toNat, argAddress, argCommand, argParam0, argParam1,
    BitVec.extractLsb'_toNat, Nat.shiftRight_eq_div_pow]
  omega

/-- Decoding and encoding keep the opcode and the bits its format reads (R83, R86). -/
theorem encode_decodeOp (op : Byte) (arg : BitVec 32) :
    encode (decodeOp op arg) = .command (commandWord op (keptArg op arg)) := by
  rcases opcode_cases op with h | rfl | (rfl | rfl | rfl | rfl) | (rfl | rfl | rfl | rfl)
  · rw [decodeOp_of_nine_le h, keptArg_of_nine_le h, encode_decodeReserved h]
  · exact congrArg (fun a => Encoded.command (commandWord 0x04 a)) (formE_fields arg)
  all_goals rfl

/-! Request frames (R87). -/

/-- Bytes 4 to 7 of a request are zero, so its other six bytes are the whole frame (R87, R89). -/
theorem requestBytes_eq {f : Frame} (h : f[4] = 0 ∧ f[5] = 0 ∧ f[6] = 0 ∧ f[7] = 0) :
    requestBytes f[0] f[1] f[2] f[3] f[8] f[9] = f := by
  obtain ⟨h4, h5, h6, h7⟩ := h
  apply Vector.toList_inj.1
  rw [requestBytes_toList, frame_toList, h4, h5, h6, h7]

/-- Ten bytes that decode are the bytes of a request of the row they decode to (R87, R92). -/
theorem decodeWire_cases {w : WireFrame} {i : Instr} (h : decodeWire w = .ok i) :
    (∃ a code lo hi, i = .wireReqDsp a code lo hi ∧
      unpackFrame w = requestBytes a cmdDsp code 0 lo hi) ∨
    (∃ a period p1 lo hi, i = .wireReqEnergy a period p1 lo hi ∧
      unpackFrame w = requestBytes a cmdEnergy period p1 lo hi) := by
  simp only [decodeWire] at h
  split_ifs at h with hzero hdsp henergy
  · obtain ⟨h1, h3⟩ := hdsp
    exact .inl ⟨_, _, _, _, (Except.ok.inj h).symm, by rw [← h1, ← h3, requestBytes_eq hzero]⟩
  · exact .inr ⟨_, _, _, _, _, (Except.ok.inj h).symm, by rw [← henergy, requestBytes_eq hzero]⟩

end Sys2Proof.Machine
end

section
/-! The statements about the decoder and the encoder. That decoding undoes encoding comes first: the other two
about command words follow from it and from what decoding keeps. -/

namespace Sys2Proof.Machine

/-- Settles O1: a command's fields are read back from where they were written, a reserved row's prefix selects its
row, and a request's zeros match its row's mask. -/
theorem decodeUndoesEncode : Obligations.DecodeUndoesEncode := by
  have hcommand (op : Byte) (arg : BitVec 32) :
      decode (.command (commandWord op arg)) = .ok (decodeOp op arg) :=
    congrArg Except.ok (decodeCommand_commandWord op arg)
  intro i
  cases i with
  | wireReqDsp a code lo hi => exact decodeWire_dspRequest a code lo hi
  | wireReqEnergy a period p1 lo hi => exact decodeWire_energyRequest a period p1 lo hi
  | clr | val | dece | reserved0000 | reserved0909 => exact hcommand _ _
  | push | reqd | reqe | decd | enc =>
    rw [encode, hcommand]
    simp [decodeOp]
  | reserved0A0B x | reserved0C0F x | reserved101F x | reserved203F x | reserved407F x
    | reserved80FF x =>
    rw [encode, hcommand]
    revert x
    decide

/-- Words of an instruction are words that decoding gives back (R86). -/
theorem decodeCommand_of_encode {i : Instr} {w : CmdWord} (h : encode i = .command w) :
    decodeCommand w = i :=
  Except.ok.inj ((congrArg decode h).symm.trans (decodeUndoesEncode i))

/-- Settles O3: the encoder writes the opcode that was decoded, and what it writes decodes back. -/
theorem decodeKeepsTheOpcode : Obligations.DecodeKeepsTheOpcode := by
  intro w
  have h := encode_decodeOp (opOf w) (argOf w)
  exact ⟨_, h, opOf_commandWord .., decodeCommand_of_encode h⟩

/-- A word decodes as the word with only the bits its format reads (R83). -/
theorem decodeOp_keptArg (op : Byte) (arg : BitVec 32) :
    decodeOp op (keptArg op arg) = decodeOp op arg :=
  (decodeCommand_commandWord ..).symm.trans (decodeCommand_of_encode (encode_decodeOp op arg))

/-- A word written from an instruction holds only the bits its format reads (R83, R98). -/
theorem argOf_of_encode {i : Instr} {w : CmdWord} (h : encode i = .command w) :
    argOf w = keptArg (opOf w) (argOf w) := by
  have hw : Encoded.command (commandWord (opOf w) (keptArg (opOf w) (argOf w))) = .command w := by
    rw [← encode_decodeOp, ← h, ← decodeCommand, decodeCommand_of_encode h]
  exact (congrArg argOf (Encoded.command.inj hw)).symm.trans (argOf_commandWord ..)

/-- Settles O4: decoding reads the kept bits only, and encoding writes no other. -/
theorem ignoredBitsChangeNothing : Obligations.IgnoredBitsChangeNothing := by
  refine ⟨fun w w' hop hB hE => ?_, fun i w h => ⟨fun hop => ?_, fun hop => ?_⟩⟩
  · have hkept : keptArg (opOf w) (argOf w) = keptArg (opOf w) (argOf w') := by
      unfold keptArg
      split_ifs with h4 hb
      · exact hE h4
      · rw [hB hb]
      · rfl
    rw [decodeCommand, decodeCommand, ← decodeOp_keptArg, hkept, decodeOp_keptArg, hop]
  · rw [argOf_of_encode h, keptArg_formatB hop]
    exact formB_ignored _
  · rw [argOf_of_encode h, keptArg_formatN _ hop]
    rfl

/-- Settles O2: packing the request's bytes again gives the frame that was unpacked. -/
theorem wireDecodeIsExact : Obligations.WireDecodeIsExact := by
  intro w i h
  have hpack {f : Frame} (hf : unpackFrame w = f) : Encoded.wire (packFrame f) = .wire w := by
    rw [← hf, packFrame_unpackFrame]
  rcases decodeWire_cases h with ⟨a, code, lo, hi, rfl, hf⟩ | ⟨a, period, p1, lo, hi, rfl, hf⟩
  · exact hpack hf
  · exact hpack hf

/-- Settles O5: eighteen closed words, decoded. -/
theorem specWordsDecode : Obligations.SpecWordsDecode := by
  unfold Obligations.SpecWordsDecode
  decide

end Sys2Proof.Machine
end

section
/-! SUPPORT. The command words of instruction lists (R98, R99), what CHECK of ten bytes with a true checksum leaves
(R99, R113, R115), and the sign of an energy word (R167). -/

namespace Sys2Proof.Machine

/-! Words of instruction lists (R98). -/

theorem commandWords_append (is js : List Instr) :
    commandWords (is ++ js) = commandWords is ++ commandWords js :=
  List.filterMap_append

/-- The words of FRAME's PUSHes, each its opcode, 24 zero bits and its byte (R82). -/
theorem commandWords_pushes (bytes : List Byte) :
    commandWords (bytes.map .push) = bytes.map fun b => 0x02#8 ++ 0x000000#24 ++ b := by
  induction bytes with
  | nil => rfl
  | cons b bs ih =>
    rw [List.map_cons, List.map_cons, ← ih, ← commandWord_formB]
    rfl

theorem commandWords_frame (bytes : List Byte) :
    commandWords (expandFrame bytes)
      = 0x0100000000 :: bytes.map fun b => 0x02#8 ++ 0x000000#24 ++ b :=
  congrArg (List.cons 0x0100000000) (commandWords_pushes bytes)

/-- CHECK's words, then those of the instructions that follow it (R99). -/
theorem commandWords_check_append (bytes : List Byte) (is : List Instr) :
    commandWords (expandCheck bytes ++ is)
      = 0x0100000000 :: (bytes.map (fun b => 0x02#8 ++ 0x000000#24 ++ b) ++
          0x0300000000 :: commandWords is) := by
  rw [expandCheck, List.append_assoc, commandWords_append, commandWords_frame]
  rfl

/-- A written PUSH decodes as itself. -/
theorem decodeCommand_pushWord (b : Byte) :
    decodeCommand (0x02#8 ++ 0x000000#24 ++ b) = .push b := by
  rw [← commandWord_formB, decodeCommand_commandWord]
  exact congrArg Instr.push (argByte_formB b)

/-! Ten received bytes with a true checksum (R99, R113, R115). -/

/-- The state that CHECK of a true frame leaves: the frame buffered and counted, `FRAME_OK` set. -/
def State.checked (s : State) (f : Frame) : State :=
  ((s.received f).summed.setVerdict true).complete codeOk

/-- VAL right after receiving ten bytes whose checksum agrees. -/
theorem execVal_received {f : Frame} (h : checksumAgrees f = true) (s : State) :
    exec .val (s.received f) = .next (s.checked f) := by
  have hs : (s.received f).len = 10 ∧ (s.received f).fb = f := by
    rw [received_eq]
    exact ⟨rfl, rfl⟩
  exact execVal_agrees _ hs.1 (hs.2.symm ▸ h)

@[simp] theorem State.checked_fb (s : State) (f : Frame) : (s.checked f).fb = f := by
  rw [State.checked, received_eq]
  rfl

@[simp] theorem State.checked_params (s : State) (f : Frame) :
    (s.checked f).params = s.params := by
  rw [State.checked, received_eq]
  rfl

/-- CHECK of ten bytes, and then the rest of a run (R99). -/
theorem runInstrs_check {f : Frame} (h : checksumAgrees f = true) (is : List Instr) (s : State) :
    runInstrs (expandCheck f.toList ++ is) s = runInstrs is (s.checked f) := by
  rw [expandCheck, List.append_assoc]
  exact (runInstrs_append _ _ _ _ (runInstrs_frame f.toList s)).trans
    (runInstrs_cons (execVal_received h s))

/-! The signed reading of a 32-bit word (R10). -/

/-- The two's-complement reading is the library's (R10). -/
theorem s32_eq_toInt (w : BitVec 32) : s32 w = w.toInt := by
  rw [BitVec.toInt_eq_msb_cond, BitVec.msb_eq_getLsbD_last]
  rfl

/-- The sign of a 32-bit reading is that of its last byte (R10, R167). -/
theorem s32_le32 (b0 b1 b2 b3 : Byte) :
    s32 (le32 b0 b1 b2 b3)
      = (b0.toNat : Int) + 2 ^ 8 * b1.toNat + 2 ^ 16 * b2.toNat + 2 ^ 24 * b3.toInt := by
  have h0 := b0.isLt
  have h1 := b1.isLt
  have h2 := b2.isLt
  rw [s32_eq_toInt, BitVec.toInt_eq_toNat_cond, BitVec.toInt_eq_toNat_cond, le32_toNat]
  split_ifs <;> omega

/-! The catalog's codes. -/

/-- The codes that the DSP catalog does not list (R93, R96). -/
theorem dspParameter_eq_none_iff (code : Byte) :
    dspParameter code = none ↔ code ∉ ([1, 3, 21, 22, 23, 25, 26, 27, 35] : List Byte) := by
  revert code
  decide

end Sys2Proof.Machine
end

section
/-! The statements about the pseudo-instructions, the received frames and the catalogs. -/

namespace Sys2Proof.Machine

/-- Settles O59: the words of CHECK and of what follows it, and a written PUSH decodes as itself. -/
theorem expansionsAssembleToTheirCommands : Obligations.ExpansionsAssembleToTheirCommands := by
  refine ⟨commandWords_frame, fun bytes => ?_, fun code f => ?_, fun f => ?_, fun bytes => ?_⟩
  · exact (congrArg commandWords (List.append_nil _)).symm.trans (commandWords_check_append bytes [])
  · rw [← commandWord_formB]
    exact commandWords_check_append f.toList [.decd code]
  · exact commandWords_check_append f.toList [.dece]
  · simp only [expandPseudo, commandWords_frame, List.map_cons, List.map_map, Function.comp_def,
      decodeCommand_pushWord]
    rfl

/-- Settles O26: well-formedness is the agreement that VAL checks on the received bytes. -/
theorem wellFormedWireFramesPassVal : Obligations.WellFormedWireFramesPassVal := by
  have hval {i : Instr} {s : State} {f : Frame} (hi : exec i s = .next (s.received f))
      (hf : checksumAgrees f = true) :
      ∃ t, runInstrs [i, .val] s = .next t ∧ t.code = 1 ∧ t.frameOk = true :=
    ⟨_, (runInstrs_cons hi).trans (runInstrs_cons (execVal_received hf s)), rfl, rfl⟩
  intro i s hkind hwf
  cases i with
  | wireReqDsp a code lo hi => exact hval rfl (Bool.and_eq_true_iff.1 hwf).2
  | wireReqEnergy a period p1 lo hi => exact hval rfl (Bool.and_eq_true_iff.1 hwf).2
  | _ => cases hkind

/-- Settles O57: after CHECK the parameter's DECD latches the frame's bytes 6 and 7 with its catalog entry. -/
theorem receivedDspResponseDecodes : Obligations.ReceivedDspResponseDecodes := by
  intro f code p s hp hsum
  have hdecd : exec (.decd code) (s.checked f)
      = .next (((s.checked f).dspLatched code p).complete codeOk) :=
    exec_of_performs (.decdLatched code p rfl hp)
  have hraw : ((s.checked f).dspLatched code p).raw16.toNat = f[6].toNat + 256 * f[7].toNat := by
    simp only [State.dspLatched_raw16, State.checked_fb, le16_toNat]
  have hk : ((s.checked f).dspLatched code p).dspK.toNat = (dspExponent s.params p).val := by
    rw [State.dspLatched_dspK, dspExponent_toNat, State.checked_params]
  have hscaled : ((s.checked f).dspLatched code p).scaled.toNat
      = (f[6].toNat + 256 * f[7].toNat) * 10 ^ (2 - (dspExponent s.params p).val) := by
    simp only [State.dspLatched_scaled, State.checked_fb, State.checked_params, scaledValue_toNat,
      le16_toNat, scaleMult]
  have hphys : ((s.checked f).dspLatched code p).phys
      = ((f[6].toNat + 256 * f[7].toNat : Nat) : Rat) / 10 ^ (dspExponent s.params p).val := by
    rw [State.phys, hraw, hk]
  exact ⟨_, (runInstrs_check ((checksumAgrees_iff f).2 hsum) _ s).trans (runInstrs_cons hdecd),
    rfl, s.checked_fb f, rfl, rfl, hraw, rfl, hk, hscaled, hphys, rfl⟩

/-- Settles O58: after CHECK a DECE latches the word of bytes 5, 4, 7, 4. -/
theorem receivedEnergyResponseDecodes : Obligations.ReceivedEnergyResponseDecodes := by
  intro f s horder hsum
  have hdece : exec .dece (s.checked f) = .next ((s.checked f).nrgLatched.complete codeOk) :=
    exec_of_performs (.deceLatched rfl)
  have hword : (s.checked f).nrgLatched.raw32 = le32 f[5] f[4] f[7] f[4] := by
    simp only [State.nrgLatched_raw32, State.checked_params, State.checked_fb, horder, energyWord]
  exact ⟨_, (runInstrs_check ((checksumAgrees_iff f).2 hsum) _ s).trans (runInstrs_cons hdece),
    rfl, s.checked_fb f, rfl, (congrArg s32 hword).trans (s32_le32 ..)⟩

/-- Settles O6: row by row for the listed codes, and every other code is unknown. -/
theorem catalogsAreTheTables : Obligations.CatalogsAreTheTables := by
  refine ⟨fun params code => ?_, ?_⟩
  · by_cases h : code ∈ ([1, 3, 21, 22, 23, 25, 26, 27, 35] : List Byte)
    · simp only [List.mem_cons, List.not_mem_nil, or_false] at h
      rcases h with rfl | rfl | rfl | rfl | rfl | rfl | rfl | rfl | rfl <;> rfl
    · rw [(dspParameter_eq_none_iff code).2 h]
      simp only [List.mem_cons, List.not_mem_nil, or_false, not_or] at h
      simp only [h, or_self, if_false, Option.map_none]
  · decide

/-- Settles O23: what FRAME of ten bytes leaves, at each row's bytes. -/
theorem wireFramesAreReceived : Obligations.WireFramesAreReceived :=
  ⟨fun _ _ _ _ s => congrArg Host.Outcome.next (received_eq s _),
    fun _ _ _ _ _ s => congrArg Host.Outcome.next (received_eq s _)⟩

/-- Settles O24: receiving is FRAME's fold of PUSHes after a CLR. -/
theorem wireFrameIsTheFrameExpansion : Obligations.WireFrameIsTheFrameExpansion :=
  ⟨fun _ _ _ _ => runInstrs_frame _, fun _ _ _ _ _ => runInstrs_frame _⟩

end Sys2Proof.Machine
end

section
/-! SUPPORT. The checksum as numbers and as a sum over a list (R12, R114), how single bytes move it and its field
(R116, R119), and when VAL completes with `OK` or with `CHECKSUM_MISMATCH` (R113). -/

namespace Sys2Proof.Machine

/-- A command word decodes by its opcode. -/
theorem decodeCommand_of_opOf {w : CmdWord} {op : Byte} (h : opOf w = op) :
    decodeCommand w = decodeOp op (argOf w) := by
  rw [decodeCommand, h]

/-! The checksum's two bytes (R90). -/

theorem lowByte_eq_ofNat (w : BitVec 16) : lowByte w = BitVec.ofNat 8 w.toNat :=
  BitVec.eq_of_toNat_eq (lowByte_toNat w)

theorem highByte_eq_ofNat (w : BitVec 16) : highByte w = BitVec.ofNat 8 (w.toNat / 256) := by
  have h := w.isLt
  apply BitVec.eq_of_toNat_eq
  rw [highByte_toNat, BitVec.toNat_ofNat]
  omega

/-- The checksum field agrees exactly when byte 8 is the sum's low byte and byte 9 its high byte (R90, R113). -/
theorem checksumAgrees_iff_bytes (f : Frame) :
    checksumAgrees f = true ↔
      f[8] = BitVec.ofNat 8 (byteSum f) ∧ f[9] = BitVec.ofNat 8 (byteSum f / 256) := by
  simp only [checksumAgrees, Bool.and_eq_true, beq_iff_eq, lowByte_eq_ofNat, highByte_eq_ofNat,
    cksum_toNat]

/-- The sealed request, written out (R112). -/
theorem sealedRequest_eq (a c p0 p1 : Byte) :
    sealedRequest a c p0 p1 = requestBytes a c p0 p1
      (BitVec.ofNat 8 (a.toNat + c.toNat + p0.toNat + p1.toNat))
      (BitVec.ofNat 8 ((a.toNat + c.toNat + p0.toNat + p1.toNat) / 256)) := by
  rw [sealedRequest, lowByte_eq_ofNat, highByte_eq_ofNat, cksum_toNat, byteSum_requestBytes]

/-- The sum depends on the first eight bytes as a list only, so not on their order (R119). -/
theorem byteSum_eq_sum_take (f : Frame) :
    byteSum f = ((f.toList.take 8).map BitVec.toNat).sum := by
  simp [frame_toList, byteSum, Nat.add_assoc]

/-! Eight bytes and two more, as a frame. -/

/-- The frame of eight bytes and their checksum, low byte first (R90, R115). -/
def sealedPayload (bs : Vector Byte 8) : Frame :=
  bs ++ #v[BitVec.ofNat 8 (bs.toList.map BitVec.toNat).sum,
    BitVec.ofNat 8 ((bs.toList.map BitVec.toNat).sum / 256)]

theorem sealedPayload_toList (bs : Vector Byte 8) :
    (sealedPayload bs).toList = bs.toList ++
      [BitVec.ofNat 8 (bs.toList.map BitVec.toNat).sum,
       BitVec.ofNat 8 ((bs.toList.map BitVec.toNat).sum / 256)] :=
  Vector.toList_append

theorem sealedPayload_byte (bs : Vector Byte 8) (i : Nat) (hi : i < 8) :
    (sealedPayload bs)[i] = bs[i] :=
  Vector.getElem_append_left hi

theorem checksumAgrees_sealedPayload (bs : Vector Byte 8) :
    checksumAgrees (sealedPayload bs) = true := by
  have hsum : byteSum (sealedPayload bs) = (bs.toList.map BitVec.toNat).sum := by
    rw [byteSum_eq_sum_take, sealedPayload_toList, List.take_left' bs.length_toList]
  rw [checksumAgrees_iff_bytes, hsum]
  exact ⟨Vector.getElem_append_right _ (Nat.le_refl 8), Vector.getElem_append_right _ (Nat.le_succ 8)⟩

/-! The field and the sum, under writes to single bytes (R116, R119). -/

/-- The number in bytes 8 and 9, low byte first (R90). -/
def checkField (f : Frame) : Nat := f[8].toNat + 256 * f[9].toNat

theorem checksumAgrees_iff_checkField (f : Frame) :
    checksumAgrees f = true ↔ checkField f = byteSum f :=
  checksumAgrees_iff f

/-- Writing one of the eight bytes leaves the field. -/
theorem checkField_set (f : Frame) {i : Nat} (hi : i < 8) (v : Byte) :
    checkField (f.set i v) = checkField f := by
  rw [checkField, Vector.getElem_set_ne _ _ (by omega), Vector.getElem_set_ne _ _ (by omega),
    checkField]

/-- Replacing a byte of the field changes the number there. -/
theorem checkField_set_ne (f : Frame) {i : Nat} (hi : 8 ≤ i) (hi' : i < 10) {v : Byte}
    (hne : v ≠ f[i]) : checkField (f.set i v) ≠ checkField f := by
  have hv : v.toNat ≠ f[i].toNat := fun heq => hne (BitVec.eq_of_toNat_eq heq)
  obtain rfl | rfl : i = 8 ∨ i = 9 := by omega
  · simpa [checkField] using hv
  · simpa [checkField] using hv

/-- Two different bytes of the field, swapped, hold another number. -/
theorem checkField_swap_ne {f : Frame} (hne : f[8] ≠ f[9]) :
    checkField ((f.set 8 f[9]).set 9 f[8]) ≠ checkField f := by
  have hv : f[8].toNat ≠ f[9].toNat := fun heq => hne (BitVec.eq_of_toNat_eq heq)
  rw [checkField, Vector.getElem_set_ne _ _ (by omega), Vector.getElem_set_self,
    Vector.getElem_set_self, checkField]
  omega

/-- Moving byte 8 up without passing 255 moves the field as far. -/
theorem checkField_raise (f : Frame) {d : Nat} (h : f[8].toNat + d < 256) :
    checkField (f.set 8 (BitVec.ofNat 8 (f[8].toNat + d))) = checkField f + d := by
  rw [checkField, Vector.getElem_set_self, Vector.getElem_set_ne _ _ (by omega),
    BitVec.toNat_ofNat, checkField]
  omega

/-- Moving one of the eight bytes up without passing 255 moves the sum as far. -/
theorem byteSum_raise (f : Frame) {i d : Nat} (hi : i < 8) (h : f[i].toNat + d < 256) :
    byteSum (f.set i (BitVec.ofNat 8 (f[i].toNat + d))) = byteSum f + d := by
  have hset := byteSum_set f i hi (BitVec.ofNat 8 (f[i].toNat + d))
  rw [BitVec.toNat_ofNat] at hset
  omega

/-- Moving one of the eight bytes down without passing 0 moves the sum as far. -/
theorem byteSum_lower (f : Frame) {i d : Nat} (hi : i < 8) (h : d ≤ f[i].toNat) :
    byteSum (f.set i (BitVec.ofNat 8 (f[i].toNat - d))) + d = byteSum f := by
  have hlt := f[i].isLt
  have hset := byteSum_set f i hi (BitVec.ofNat 8 (f[i].toNat - d))
  rw [BitVec.toNat_ofNat] at hset
  omega

/-! VAL by its status code (R113). -/

/-- A VAL that completes with `OK` found ten bytes whose field holds their sum. -/
theorem sealed_of_val_ok {s t : State} (h : exec .val s = .next t) (hok : t.code = 1) :
    s.len = 10 ∧ checkField s.fb = byteSum s.fb := by
  cases performs_of_exec h with
  | valAgrees hlen hck => exact ⟨hlen, (checksumAgrees_iff_checkField s.fb).1 hck⟩
  | valLength | valMismatch => cases hok
  | reserved _ hk => cases hk

/-- Ten bytes whose field holds their sum pass VAL. -/
theorem val_ok_of_sealed {s : State} (hlen : s.len = 10) {f : Frame}
    (hsum : checkField f = byteSum f) :
    ∃ u, exec .val { s with fb := f } = .next u ∧ u.code = 1 :=
  ⟨_, execVal_agrees _ hlen ((checksumAgrees_iff_checkField f).2 hsum), rfl⟩

/-- Ten bytes whose field does not hold their sum fail VAL on the checksum. -/
theorem val_mismatch_of_not_sealed {s : State} (hlen : s.len = 10) {f : Frame}
    (hsum : checkField f ≠ byteSum f) :
    ∃ u, exec .val { s with fb := f } = .next u ∧ u.code = 3 ∧ u.frameOk = false :=
  ⟨_, execVal_mismatch _ hlen (Bool.eq_false_iff.2 fun h =>
    hsum ((checksumAgrees_iff_checkField f).1 h)), rfl, rfl⟩

/-- A built request passes VAL (R112, R142). -/
theorem val_ok_built (s : State) (a c p0 p1 : Byte) :
    ∃ u, exec .val (s.built a c p0 p1) = .next u ∧ u.code = 1 :=
  ⟨_, execVal_agrees _ rfl (checksumAgrees_sealedRequest a c p0 p1), rfl⟩

end Sys2Proof.Machine
end

section
/-! The statements of the frame codec: its four commands, and the laws of the checksum. -/

namespace Sys2Proof.Machine

/-- Settles O14: a CLR is the one update `State.emptied`, and a reset state is empty already. -/
theorem clrEmptiesTheFrame : Obligations.ClrEmptiesTheFrame := by
  refine ⟨fun w h => decodeCommand_of_opOf h, fun s => rfl, fun s t h => ?_, fun a s h => ?_⟩
  · exact exec_of_performs ((performs_of_exec h).again nofun)
  · simp only [h.len, h.frameOk, h.dspValid, h.nrgValid, h.busy]
    rfl

/-- Settles O15: one byte is written at the counter, which moves on, so that ten bytes become eleven. -/
theorem pushAppendsOneByte : Obligations.PushAppendsOneByte := by
  refine ⟨fun w h => decodeCommand_of_opOf h, fun s b => ⟨s.pushed b, rfl, fun i hi => ?_, ?_, rfl⟩,
    fun s b h => ?_⟩
  · simp only [pushed_byte, eq_comm]
  · exact nextLen_toNat s.len
  · have hlen : (s.pushed b).len = 11 := by
      rw [State.pushed_len, h]
      rfl
    have hfb : (s.pushed b).fb = s.fb := by
      apply Vector.ext
      intro i hi
      rw [pushed_byte, h]
      exact if_neg (Nat.ne_of_lt hi).symm
    have hval := execVal_wrongLength (s.pushed b) (by rw [hlen]; decide)
    exact ⟨_, (runInstrs_cons rfl).trans (runInstrs_cons hval), hfb, hlen, rfl⟩

/-- Settles O16: the sealed request written out, with a sum of four bytes below 1024. -/
theorem encBuildsASealedRequest : Obligations.EncBuildsASealedRequest := by
  refine ⟨fun w h => decodeCommand_of_opOf h, fun a c p0 p1 s => ?_, fun a c p0 p1 s t h => ?_⟩
  · have hbuilt : exec (.enc a c p0 p1) s = .next (s.built a c p0 p1) := rfl
    rw [hbuilt, State.built, cksum, byteSum_sealedRequest, sealedRequest_eq]
    rfl
  · cases h
    refine ⟨?_, val_ok_built s a c p0 p1⟩
    have ha := a.isLt
    have hc := c.isLt
    have h0 := p0.isLt
    have h1 := p1.isLt
    rw [State.built_fb, sealedRequest_eq]
    change (BitVec.ofNat 8 _).toNat ≤ 3
    rw [BitVec.toNat_ofNat]
    omega

/-- Settles O17: the three outcomes of VAL, with the checksum's agreement byte by byte. -/
theorem valChecksLengthThenChecksum : Obligations.ValChecksLengthThenChecksum := by
  refine ⟨fun w h => decodeCommand_of_opOf h, execVal_wrongLength, fun s sum hlen hsum => ?_⟩
  change sum = byteSum s.fb at hsum
  subst hsum
  rw [← checksumAgrees_iff_bytes]
  exact ⟨execVal_agrees s hlen, fun h => execVal_mismatch s hlen (Bool.eq_false_iff.2 h)⟩

/-- Settles O27: the 16-bit cut removes nothing, and what writes `SUM` writes a checksum. -/
theorem checksumIsTheExactSum : Obligations.ChecksumIsTheExactSum := by
  refine ⟨fun f => ⟨cksum_toNat f, (cksum_toNat f).trans_le (byteSum_le f), cksum_highBits f, ?_⟩,
    fun i s t h => ?_⟩
  · apply BitVec.eq_of_toNat_eq
    rw [BitVec.extractLsb'_toNat, cksum_toNat, BitVec.toNat_ofNat, Nat.shiftRight_zero]
    rfl
  · by_cases hw : WritesSum i s t
    · exact .inr ((sum_of_writesSum h hw).2 ▸ cksum_highBits t.fb)
    · exact .inl (sum_of_not_writesSum h hw)

/-- Settles O28: CHECK of the sealed payload leaves its frame, whose first eight bytes are the payload. -/
theorem checksumRoundTrip : Obligations.ChecksumRoundTrip := by
  refine ⟨fun bs s => ?_, fun a c p0 p1 s => ?_⟩
  · have hrun := runInstrs_check (checksumAgrees_sealedPayload bs) [] s
    rw [List.append_nil, sealedPayload_toList] at hrun
    refine ⟨s.checked (sealedPayload bs), hrun, rfl, rfl, fun i hi => ?_⟩
    obtain ⟨-, -, -, hpayload⟩ := widePortPacksTheBytes (s.checked (sealedPayload bs))
    rw [hpayload i hi, ← sealedPayload_byte bs i hi]
    simp only [State.checked_fb]
  · obtain ⟨u, hu, hok⟩ := val_ok_built s a c p0 p1
    exact ⟨u, (runInstrs_cons rfl).trans (runInstrs_cons hu), hok⟩

/-- Settles O29: a summed byte moves the sum and not the field, a field byte moves the field and not the sum. -/
theorem singleByteCorruptionIsDetected : Obligations.SingleByteCorruptionIsDetected := by
  intro s t i hi v h hok hne
  obtain ⟨hlen, hsum⟩ := sealed_of_val_ok h hok
  refine val_mismatch_of_not_sealed hlen ?_
  by_cases hi8 : i < 8
  · have hmoved := byteSum_set s.fb i hi8 v
    have hv : v.toNat ≠ s.fb[i].toNat := fun heq => hne (BitVec.eq_of_toNat_eq heq)
    rw [checkField_set s.fb hi8]
    omega
  · have hi8' := Nat.le_of_not_lt hi8
    rw [byteSum_set_checksum s.fb i hi8' hi, ← hsum]
    exact checkField_set_ne s.fb hi8' hi hne

/-- Settles O30: FRAME's saturated count is not ten, so VAL stops at the length. -/
theorem wrongLengthNeverChecks : Obligations.WrongLengthNeverChecks := by
  intro bytes s hne
  exact ⟨_, (runInstrs_cons rfl).trans
    (runInstrs_pushes_val (emptied_pushes s bytes) (count_ne_ten hne)), rfl, rfl⟩

/-- Settles O31: a last byte of 8 stands for 2048, and eight bytes sum to at most 2040. -/
theorem highChecksumByteNeverPasses : Obligations.HighChecksumByteNeverPasses := by
  intro s t hhigh h
  have hfails : t.code ≠ 1 := by
    intro hok
    obtain ⟨-, hsum⟩ := sealed_of_val_ok h hok
    have hle := byteSum_le s.fb
    rw [← hsum, checkField] at hle
    omega
  obtain ⟨hframe, -⟩ := flagRule_of_exec h rfl
  exact ⟨hfails, Bool.eq_false_iff.2 fun hok => hfails (hframe.1 hok)⟩

/-- Settles O32: each of the first three changes keeps the field equal to the sum; the swap moves the field alone. -/
theorem undetectedCorruptions : Obligations.UndetectedCorruptions := by
  intro s t h hok
  obtain ⟨hlen, hsum⟩ := sealed_of_val_ok h hok
  refine ⟨fun i j d hi hj f hij hup hdown hf => val_ok_of_sealed hlen ?_,
    fun f hperm h8 h9 => val_ok_of_sealed hlen ?_,
    fun i d hi f hup hup8 hf => val_ok_of_sealed hlen ?_, fun hne => ?_⟩
  · have hj' : (s.fb.set i (BitVec.ofNat 8 (s.fb[i].toNat + d)))[j] = s.fb[j] :=
      Vector.getElem_set_ne _ _ hij
    have hlower := byteSum_lower _ hj (hj'.symm ▸ hdown)
    rw [hj', ← hf, byteSum_raise s.fb hi hup] at hlower
    rw [Nat.add_right_cancel hlower, ← hsum, hf, checkField_set _ hj, checkField_set _ hi]
  · rw [byteSum_eq_sum_take, (hperm.map BitVec.toNat).sum_eq, ← byteSum_eq_sum_take, ← hsum,
      checkField, h8, h9, checkField]
  · have h8 : (s.fb.set i (BitVec.ofNat 8 (s.fb[i].toNat + d)))[8] = s.fb[8] :=
      Vector.getElem_set_ne _ _ (by omega)
    have hraise := checkField_raise _ (h8.symm ▸ hup8)
    rw [h8, ← hf, checkField_set _ hi] at hraise
    rw [hraise, hf, byteSum_set_checksum _ 8 (by omega) (by omega), byteSum_raise s.fb hi hup, hsum]
  · have hswap : checkField ((s.fb.set 8 s.fb[9]).set 9 s.fb[8])
        ≠ byteSum ((s.fb.set 8 s.fb[9]).set 9 s.fb[8]) := by
      rw [byteSum_set_checksum _ 9 (by omega) (by omega),
        byteSum_set_checksum _ 8 (by omega) (by omega), ← hsum]
      exact checkField_swap_ne hne
    obtain ⟨u, hu, hcode, -⟩ := val_mismatch_of_not_sealed hlen hswap
    exact ⟨u, hu, hcode⟩

end Sys2Proof.Machine
end

section
/-! SUPPORT. When REQD and REQE build (R140, R141): the codes that the catalogs list, and the one update that a
successful build is. -/

namespace Sys2Proof.Machine

/-- The energy periods that the catalog does not list (R95, R96). -/
theorem energyPeriod_eq_none_iff (period : Byte) :
    energyPeriod period = none ↔ period = 2 ∨ 5 < period.toNat := by
  revert period
  decide

/-- The largest code of the DSP catalog is 35 (R93, R96). -/
theorem dspParameter_code_le {code : Byte} (h : dspParameter code ≠ none) : code.toNat ≤ 35 := by
  revert code
  decide

/-- On a listed code REQD is the ENC of R140. -/
theorem exec_reqd_eq_enc {code : Byte} (h : dspParameter code ≠ none) (s : State) :
    exec (.reqd code) s = exec (.enc s.addr 0x3B code 0x00) s := by
  rcases execReqd_cases code s with ⟨hnone, -⟩ | ⟨_, -, hbuilt⟩
  · exact absurd hnone h
  · exact hbuilt

/-- On a listed period REQE is the ENC of R141. -/
theorem exec_reqe_eq_enc {period : Byte} (h : energyPeriod period ≠ none) (s : State) :
    exec (.reqe period) s = exec (.enc s.addr 0x4E period s.params.energyParam1) s := by
  rcases execReqe_cases period s with ⟨hnone, -⟩ | ⟨_, -, hbuilt⟩
  · exact absurd hnone h
  · exact hbuilt

/-- A REQD that completes with `OK` built its request. -/
theorem built_of_reqd_ok {code : Byte} {s t : State} (h : exec (.reqd code) s = .next t)
    (hok : t.code = 1) : t = s.built s.addr 0x3B code 0x00 := by
  cases performs_of_exec h with
  | reqdBuilt => rfl
  | reqdUnknown => cases hok
  | reserved _ hk => cases hk

/-- A REQE that completes with `OK` built its request. -/
theorem built_of_reqe_ok {period : Byte} {s t : State} (h : exec (.reqe period) s = .next t)
    (hok : t.code = 1) : t = s.built s.addr 0x4E period s.params.energyParam1 := by
  cases performs_of_exec h with
  | reqeBuilt => rfl
  | reqeUnknown => cases hok
  | reserved _ hk => cases hk

/-- A sealed request's checksum field is the sum of its four header bytes (R90, R112). -/
theorem checkField_sealedRequest (a c p0 p1 : Byte) :
    checkField (sealedRequest a c p0 p1) = a.toNat + c.toNat + p0.toNat + p1.toNat :=
  ((checksumAgrees_iff_checkField _).1 (checksumAgrees_sealedRequest a c p0 p1)).trans
    (byteSum_sealedRequest a c p0 p1)

end Sys2Proof.Machine
end

section
/-! The statements of the request builder: REQD, REQE, and the laws of what they build. -/

namespace Sys2Proof.Machine

/-- Settles O18: a known code's REQD is an ENC, whose effect O16 writes out; codes up to 35 keep the sum below 512. -/
theorem reqdBuildsOrRefuses : Obligations.ReqdBuildsOrRefuses := by
  obtain ⟨-, henc, -⟩ := encBuildsASealedRequest
  refine ⟨fun w h => decodeCommand_of_opOf h,
    fun code s hcode => exec_of_performs (.reqdUnknown code hcode), fun code s hcode => ?_⟩
  have hreqd := exec_reqd_eq_enc hcode s
  refine ⟨hreqd, hreqd.trans (henc s.addr 0x3B code 0x00 s), ?_⟩
  have haddr := s.addr.isLt
  have hle := dspParameter_code_le hcode
  omega

/-- Settles O19: a known period's REQE is an ENC, whose effect O16 writes out. -/
theorem reqeBuildsOrRefuses : Obligations.ReqeBuildsOrRefuses := by
  obtain ⟨-, henc, -⟩ := encBuildsASealedRequest
  refine ⟨fun w h => decodeCommand_of_opOf h, fun period s hperiod => ?_,
    fun period s hperiod => ?_⟩
  · exact exec_of_performs (.reqeUnknown period ((energyPeriod_eq_none_iff period).2 hperiod))
  · have hreqe := exec_reqe_eq_enc (mt (energyPeriod_eq_none_iff period).1 hperiod) s
    exact ⟨hreqe, hreqe.trans (henc s.addr 0x4E period s.params.energyParam1 s)⟩

/-- Settles O34: a build that completes with `OK` leaves the sealed request of `ADDR`, `c`, `p`, `q`. -/
theorem requestLaws : Obligations.RequestLaws := by
  intro i c p q s t h hok hreq
  have hbuilt : t = s.built s.addr c p q := by
    rcases hreq with ⟨rfl, rfl, rfl⟩ | ⟨rfl, rfl, rfl⟩
    · exact built_of_reqd_ok h hok
    · exact built_of_reqe_ok h hok
  subst hbuilt
  have hfield := checkField_sealedRequest s.addr c p q
  have hsum : (s.built s.addr c p q).sum.toNat = s.addr.toNat + c.toNat + p.toNat + q.toNat :=
    (cksum_toNat _).trans (byteSum_sealedRequest s.addr c p q)
  exact ⟨rfl, ⟨rfl, rfl, rfl, rfl⟩, val_ok_built s s.addr c p q, ⟨hfield, hsum⟩, rfl⟩

end Sys2Proof.Machine
end

section
/-! SUPPORT. The energy word byte by byte and its sign (R165 to R167), and what a DECD that completes with `OK`
latched: an exponent of at most 2 and the exact product (R160 to R163). -/

namespace Sys2Proof.Machine

/-! The energy word (R165 to R167). -/

/-- Bits 15:8 of a 32-bit reading are its second byte (R10). -/
theorem le32_extract_byte1 (b0 b1 b2 b3 : Byte) : (le32 b0 b1 b2 b3).extractLsb' 8 8 = b1 :=
  argCommand_formE b0 b1 b2 b3

/-- Bits 31:24 of a 32-bit reading are its last byte (R10). -/
theorem le32_extract_byte3 (b0 b1 b2 b3 : Byte) : (le32 b0 b1 b2 b3).extractLsb' 24 8 = b3 :=
  argParam1_formE b0 b1 b2 b3

/-- A two's-complement reading is negative when bit 31 is set (R10). -/
theorem s32_neg_iff (w : BitVec 32) : s32 w < 0 ↔ w.getLsbD 31 = true := by
  have hmsb := w.msb_eq_getLsbD_last
  rw [BitVec.msb_eq_toInt, ← s32_eq_toInt] at hmsb
  rw [← hmsb, decide_eq_true_iff]

/-- The sign of a 32-bit reading is bit 7 of its last byte (R165). -/
theorem s32_le32_neg_iff (b0 b1 b2 b3 : Byte) :
    s32 (le32 b0 b1 b2 b3) < 0 ↔ b3.getLsbD 7 = true := by
  have hbit : (le32 b0 b1 b2 b3).getLsbD 31 = b3.getLsbD 7 :=
    (BitVec.getLsbD_extractLsb' 24 8 _ 7).symm.trans
      (congrArg (BitVec.getLsbD · 7) (le32_extract_byte3 b0 b1 b2 b3))
  rw [s32_neg_iff, hbit]

/-- A word is its two's-complement reading modulo 2^32 (R10, R167). -/
theorem toNat_eq_s32_emod (w : BitVec 32) : (w.toNat : Int) = s32 w % 2 ^ 32 := by
  have hlt : (w.toNat : Int) < 2 ^ 32 := by exact_mod_cast w.isLt
  rw [s32_eq_toInt, BitVec.toInt_eq_toNat_bmod]
  exact (Int.bmod_emod.trans (Int.emod_eq_of_lt (Int.natCast_nonneg _) hlt)).symm

/-- A DECE of a validated frame, by `P_ENERGY_ORDER` (R165, R166). -/
theorem exec_dece_latched {s : State} {order : EnergyOrder} (hframe : s.frameOk = true)
    (horder : s.params.energyOrder = order) :
    exec .dece s
      = .next ({ s with raw32 := energyWord order s.fb, nrgValid := true }.complete codeOk) := by
  subst horder
  exact exec_of_performs (.deceLatched hframe)

/-! The decoded DSP value (R160 to R163). -/

/-- The product written out on the two payload bytes (R160, R161). -/
theorem scaledValue_le16 (b0 b1 : Byte) (k : Nat) :
    scaledValue (le16 b0 b1) k
      = BitVec.ofNat 24 ((b0.toNat + 256 * b1.toNat) * 10 ^ (2 - k)) := by
  rw [scaledValue, le16_toNat, scaleMult]

/-- A DECD that completes with `OK` latched a parameter of the catalog. -/
theorem latched_of_decd_ok {code : Byte} {s t : State} (h : exec (.decd code) s = .next t)
    (hok : t.code = 1) : ∃ p, t = (s.dspLatched code p).complete codeOk := by
  cases performs_of_exec h with
  | decdLatched _ p => exact ⟨p, rfl⟩
  | decdNoFrame | decdUnknown => cases hok
  | reserved _ hk => cases hk

/-- A latched exponent is one of the catalog's (R34, R161). -/
theorem dspLatched_dspK_le (s : State) (code : Byte) (p : DspParameter) :
    (s.dspLatched code p).dspK.toNat ≤ 2 := by
  rw [State.dspLatched_dspK, dspExponent_toNat]
  exact Nat.le_of_lt_succ (dspExponent s.params p).isLt

/-- The latched product is exact (R163). -/
theorem dspLatched_scaled_toNat (s : State) (code : Byte) (p : DspParameter) :
    (s.dspLatched code p).scaled.toNat
      = (s.dspLatched code p).raw16.toNat * 10 ^ (2 - (s.dspLatched code p).dspK.toNat) := by
  simp only [State.dspLatched_scaled, State.dspLatched_raw16, State.dspLatched_dspK,
    dspExponent_toNat, scaledValue_toNat, scaleMult]

/-- No product of a 16-bit raw value exceeds 65535 × 100 (R163). -/
theorem raw_mul_scale_le (raw : BitVec 16) (k : Nat) : raw.toNat * 10 ^ (2 - k) ≤ 6553500 :=
  Nat.mul_le_mul (Nat.le_of_lt_succ raw.isLt)
    (Nat.pow_le_pow_right (by decide) (Nat.sub_le 2 k) : 10 ^ (2 - k) ≤ 10 ^ 2)

/-- R162: the physical value in hundredths is `SCALED` whenever that is the exact product. -/
theorem phys_eq_scaled_div {t : State} (hk : t.dspK.toNat ≤ 2)
    (hscaled : t.scaled.toNat = t.raw16.toNat * 10 ^ (2 - t.dspK.toNat)) :
    t.phys = (t.scaled.toNat : Rat) / 100 := by
  have hpow : (10 : Rat) ^ (2 - t.dspK.toNat) * 10 ^ t.dspK.toNat = 100 := by
    rw [← pow_add, Nat.sub_add_cancel hk]
    norm_num
  rw [State.phys, div_eq_div_iff (by positivity) (by norm_num), hscaled, Nat.cast_mul, Nat.cast_pow,
    mul_assoc, Nat.cast_ofNat, hpow]

/-- R163: the physical value is at least 0. -/
theorem phys_nonneg (t : State) : 0 ≤ t.phys := by
  rw [State.phys]
  positivity

/-- R163: the physical value is at most that of the largest raw value. -/
theorem phys_le (t : State) : t.phys ≤ 65535 / 10 ^ t.dspK.toNat := by
  have hraw : (t.raw16.toNat : Rat) ≤ 65535 := by
    exact_mod_cast Nat.le_of_lt_succ t.raw16.isLt
  exact div_le_div_of_nonneg_right hraw (by positivity)

end Sys2Proof.Machine
end

section
/-! The statements of the field decoder: DECD, DECE, and the ranges of what they decode. -/

namespace Sys2Proof.Machine

/-- Settles O20: the three outcomes of DECD, with the product written out on bytes 6 and 7. -/
theorem decdDecodesOrRefuses : Obligations.DecdDecodesOrRefuses := by
  refine ⟨fun w h => decodeCommand_of_opOf h,
    fun code s hframe => exec_of_performs (.decdNoFrame code hframe),
    fun code s hframe hp => exec_of_performs (.decdUnknown code hframe hp),
    fun code p s hframe hp => ?_⟩
  rw [← scaledValue_le16]
  exact exec_of_performs (.decdLatched code p hframe hp)

/-- Settles O21: DECE's outcome under each order; `OBSERVED` puts byte 4 at bits 15:8 and 31:24. -/
theorem deceReassemblesOrRefuses : Obligations.DeceReassemblesOrRefuses := by
  refine ⟨fun w h => decodeCommand_of_opOf h,
    fun s hframe => exec_of_performs (.deceNoFrame hframe),
    fun s hframe horder => exec_dece_latched hframe horder,
    fun s hframe horder => exec_dece_latched hframe horder, fun s t hframe horder h => ?_⟩
  cases (exec_dece_latched hframe horder).symm.trans h
  exact ⟨le32_extract_byte3 .., le32_extract_byte1 .., s32_le32_neg_iff ..⟩

/-- Settles O37: a successful DECD latched the exact product, which bounds `SCALED` and gives its hundredths. -/
theorem scaledValueIsExact : Obligations.ScaledValueIsExact := by
  intro code s t h hok
  obtain ⟨p, rfl⟩ := latched_of_decd_ok h hok
  have hk := dspLatched_dspK_le s code p
  have hscaled := dspLatched_scaled_toNat s code p
  have hle := hscaled.trans_le (raw_mul_scale_le _ _)
  exact ⟨hk, hscaled, hle, Nat.testBit_lt_two_pow (hle.trans_lt (by decide)), rfl,
    phys_eq_scaled_div hk hscaled, phys_nonneg _, phys_le _⟩

/-- Settles O38: the model's reading is the library's `toInt`, with its range. -/
theorem energyIsTwosComplement : Obligations.EnergyIsTwosComplement := by
  intro s
  have henergy : s.energyWh = s.raw32.toInt := s32_eq_toInt s.raw32
  exact ⟨henergy, henergy ▸ s.raw32.le_toInt, henergy ▸ BitVec.toInt_le, toNat_eq_s32_emod s.raw32⟩

end Sys2Proof.Machine
end

section
/-! SUPPORT. The causes of the status codes 2 to 6, each exactly, over every outcome of every instruction (R192 to
R197), and the group of the reserved opcodes (R85). -/

namespace Sys2Proof.Machine

/-- Every reserved opcode from 0x09 on decodes to one of the reserved instructions (R85). -/
theorem decodeReserved_kind (op : Byte) : (decodeReserved op).kind = .reserved := by
  unfold decodeReserved
  split_ifs <;> rfl

/-- An outcome whose guard holds is the one that exec answered. -/
theorem eq_of_performs {i : Instr} {s t u : State} (h : exec i s = .next t) (hu : Performs s i u) :
    t = u :=
  Host.Outcome.next.inj (h.symm.trans (exec_of_performs hu))

/-- The checksum field disagrees (R113) when one of its two bytes does. -/
theorem checksumAgrees_eq_false_iff (f : Frame) :
    checksumAgrees f = false ↔ ¬ (f[8] = lowByte (cksum f) ∧ f[9] = highByte (cksum f)) := by
  rw [← Bool.not_eq_true, checksumAgrees, Bool.and_eq_true, beq_iff_eq, beq_iff_eq]

/-- `INVALID_LENGTH` is VAL's, on any count but ten (R192). -/
theorem invalidLength_iff {i : Instr} {s t : State} (h : exec i s = .next t) :
    t.code = codeInvalidLength ↔ i = .val ∧ s.len ≠ 10 := by
  constructor
  · intro hc
    cases performs_of_exec h with
    | valLength hlen => exact ⟨rfl, hlen⟩
    | _ => cases hc
  · rintro ⟨rfl, hlen⟩
    exact eq_of_performs h (.valLength hlen) ▸ rfl

/-- `CHECKSUM_MISMATCH` is VAL's, on ten bytes only (R193, R197). -/
theorem checksumMismatch_iff {i : Instr} {s t : State} (h : exec i s = .next t) :
    t.code = codeChecksumMismatch ↔ i = .val ∧ s.len = 10 ∧ checksumAgrees s.fb = false := by
  constructor
  · intro hc
    cases performs_of_exec h with
    | valMismatch hlen hck => exact ⟨rfl, hlen, hck⟩
    | _ => cases hc
  · rintro ⟨rfl, hlen, hck⟩
    exact eq_of_performs h (.valMismatch hlen hck) ▸ rfl

/-- `NO_FRAME` is a decode's while `FRAME_OK` is 0, whatever the parameter (R194, R197). -/
theorem noFrame_iff {i : Instr} {s t : State} (h : exec i s = .next t) :
    t.code = codeNoFrame ↔ (i = .dece ∨ ∃ c, i = .decd c) ∧ s.frameOk = false := by
  constructor
  · intro hc
    cases performs_of_exec h with
    | decdNoFrame code hframe => exact ⟨.inr ⟨code, rfl⟩, hframe⟩
    | deceNoFrame hframe => exact ⟨.inl rfl, hframe⟩
    | _ => cases hc
  · rintro ⟨rfl | ⟨code, rfl⟩, hframe⟩
    · exact eq_of_performs h (.deceNoFrame hframe) ▸ rfl
    · exact eq_of_performs h (.decdNoFrame code hframe) ▸ rfl

/-- `UNKNOWN_PARAM` is a request's, or a DECD's under `FRAME_OK`, for a code outside the catalog (R195, R197). -/
theorem unknownParam_iff {i : Instr} {s t : State} (h : exec i s = .next t) :
    t.code = codeUnknownParam ↔ (∃ c, i = .reqd c ∧ dspParameter c = none) ∨
      (∃ c, i = .reqe c ∧ energyPeriod c = none) ∨
      (∃ c, i = .decd c ∧ s.frameOk = true ∧ dspParameter c = none) := by
  constructor
  · intro hc
    cases performs_of_exec h with
    | reqdUnknown code hp => exact .inl ⟨code, rfl, hp⟩
    | reqeUnknown period hp => exact .inr (.inl ⟨period, rfl, hp⟩)
    | decdUnknown code hframe hp => exact .inr (.inr ⟨code, rfl, hframe, hp⟩)
    | _ => cases hc
  · rintro (⟨code, rfl, hp⟩ | ⟨period, rfl, hp⟩ | ⟨code, rfl, hframe, hp⟩)
    · exact eq_of_performs h (.reqdUnknown code hp) ▸ rfl
    · exact eq_of_performs h (.reqeUnknown period hp) ▸ rfl
    · exact eq_of_performs h (.decdUnknown code hframe hp) ▸ rfl

/-- `ILLEGAL_OP` is a reserved opcode's (R196). -/
theorem illegalOp_iff {i : Instr} {s t : State} (h : exec i s = .next t) :
    t.code = codeIllegalOp ↔ i.kind = .reserved := by
  constructor
  · intro hc
    cases performs_of_exec h with
    | reserved _ hk => exact hk
    | _ => cases hc
  · intro hk
    exact eq_of_performs h (.reserved i hk) ▸ rfl

/-- A completion never reports `NONE` or the reserved code 7 (R26). -/
theorem code_ne_none_and_ne_reserved {i : Instr} {s t : State} (h : exec i s = .next t) :
    t.code ≠ codeNone ∧ t.code ≠ codeReserved := by
  cases performs_of_exec h <;> exact ⟨nofun, nofun⟩

end Sys2Proof.Machine
end

section
/-! The statements about exceptions: the reserved opcodes, the cause of each code, and what a failure leaves. -/

namespace Sys2Proof.Machine

/-- Settles O22, by the rows of the opcode map and the one effect that the reserved instructions share. -/
theorem reservedOpcodesReportIllegalOp : Obligations.ReservedOpcodesReportIllegalOp := by
  refine ⟨fun w hop => ?_, fun i s hk => exec_of_reserved hk s⟩
  rcases hop with h0 | h9
  · rw [decodeCommand_of_opOf h0]
    rfl
  · rw [decodeCommand, decodeOp_of_nine_le h9]
    exact decodeReserved_kind (opOf w)

/-- Settles O47, by the eight outcomes that fail: each is the one update that its rule names, then the
completion. -/
theorem failuresArePrecise : Obligations.FailuresArePrecise := by
  intro i s t h hfails
  cases performs_of_exec h with
  | valLength | valMismatch => exact ⟨rfl, rfl, fun _ => rfl, nofun, nofun, nofun⟩
  | decdNoFrame | decdUnknown => exact ⟨rfl, rfl, nofun, fun _ => rfl, nofun, nofun⟩
  | deceNoFrame => exact ⟨rfl, rfl, nofun, nofun, fun _ => rfl, nofun⟩
  | reqdUnknown | reqeUnknown => exact ⟨rfl, rfl, nofun, nofun, nofun, fun _ => rfl⟩
  | reserved _ hk =>
    rw [hk]
    exact ⟨rfl, rfl, nofun, nofun, nofun, fun _ => rfl⟩
  | _ => exact absurd rfl hfails

/-- Settles O41, by the exact cause of each code; a VAL's cause also says which outcome it left. -/
theorem eachCodeHasItsCause : Obligations.EachCodeHasItsCause := by
  intro i s t h
  obtain ⟨hnone, hreserved⟩ := code_ne_none_and_ne_reserved h
  refine ⟨invalidLength_iff h, ?_, noFrame_iff h, unknownParam_iff h, illegalOp_iff h, hnone,
    hreserved, fun hc => ?_, fun hc => ?_⟩
  · rw [← checksumAgrees_eq_false_iff]
    exact checksumMismatch_iff h
  · obtain ⟨rfl, hlen⟩ := (invalidLength_iff h).1 hc
    rw [eq_of_performs h (.valLength hlen)]
    rfl
  · obtain ⟨rfl, hlen, hck⟩ := (checksumMismatch_iff h).1 hc
    rw [eq_of_performs h (.valMismatch hlen hck)]
    exact ⟨rfl, rfl⟩

end Sys2Proof.Machine
end

section
/-! SUPPORT. The reset state that a reset load leaves and the edge after it (R220, R222), and what a request build
leaves to a decode (R227). -/

namespace Sys2Proof.Machine

/-- A reset load gives every register of R220 its value, whatever the state before. -/
theorem isResetState_resetLoad (s : State) (a : Byte) : IsResetState a (s.resetLoad a) :=
  ⟨rfl, rfl, rfl, rfl, rfl, rfl, rfl, rfl, rfl⟩

/-- The host's index is no register of R220. -/
theorem isResetState_withIndex {a : Byte} {s : State} (h : IsResetState a s) (n : Nat) :
    IsResetState a { s with index := n } :=
  ⟨h.len, h.code, h.frameOk, h.dspValid, h.nrgValid, h.busy, h.cmdReady, h.rspValid, h.addr⟩

theorem clockEdge_resets {inp : PortIn} (h : inp.rst = true) (s : State) :
    clockEdge inp s = .next (s.resetLoad inp.cfgAddr) :=
  if_pos h

/-- `cmd_ready` is 0 in a reset state, so a command presented at the next edge is not accepted (R43, R222). -/
theorem clockEdge_of_isResetState {a : Byte} {s : State} (h : IsResetState a s) {inp : PortIn}
    (hrst : inp.rst = false) : clockEdge inp s = .next s.idled :=
  clockEdge_idles hrst (h.code ▸ by decide) h.busy (by rw [h.cmdReady, Bool.and_false])

/-- The two decode groups are one command each. -/
theorem decode_of_kind {i : Instr} (h : i.kind = .dspDecode ∨ i.kind = .energyDecode) :
    i = .dece ∨ ∃ code, i = .decd code := by
  cases i with
  | decd code => exact .inr ⟨code, rfl⟩
  | dece => exact .inl rfl
  | _ => rcases h with h | h <;> cases h

/-- A request that was built is no received frame: `FRAME_OK` is 0 (R27). -/
theorem frameOk_of_build {i : Instr} {s t : State} (h : exec i s = .next t)
    (hi : (∃ a c p0 p1, i = .enc a c p0 p1) ∨ i.kind = .request) (hok : t.code = 1) :
    t.frameOk = false := by
  rcases hi with ⟨a, c, p0, p1, rfl⟩ | hk
  · exact (flagRule_of_exec (k := .frameEdit) h rfl).1
  · exact ((flagRule_of_exec h hk).1 hok).1

end Sys2Proof.Machine
end

section
/-! The statements about reset and about a decode that comes too late. -/

namespace Sys2Proof.Machine

/-- Settles O35: the build left `FRAME_OK` 0, the one cause of `NO_FRAME`. -/
theorem lateDecodeFindsNoFrame : Obligations.LateDecodeFindsNoFrame := by
  intro build late s t u hbuild hlate ht hok hu
  exact (noFrame_iff hu).2 ⟨decode_of_kind hlate, frameOk_of_build ht hbuild hok⟩

/-- Settles O55: the edge loads a reset state, busy or not, and a reset state idles through its next edge. -/
theorem resetEdgeAbandonsTheCommand : Obligations.ResetEdgeAbandonsTheCommand := by
  intro inp s hrst
  have hreset := isResetState_resetLoad s inp.cfgAddr
  exact ⟨_, clockEdge_resets hrst s, hreset, rfl, fun _ hrst' => clockEdge_of_isResetState hreset hrst'⟩

/-- Settles O10: the step is a reset load and the index one further; a reset state's status word is O39's. -/
theorem stepOfAResetEvent : Obligations.StepOfAResetEvent := by
  intro s a hidle he
  have hreset := isResetState_withIndex (isResetState_resetLoad s a) (s.index + 1)
  exact ⟨_, step_of_reset hidle he, hreset, statusAndInfoFields.2 a _ hreset, rfl, rfl, rfl⟩

end Sys2Proof.Machine
end
